-- ==== Sys2Proof/Word.lean ====
section
/-! DEFINITION. The word types of 00_scope.md R11: unsigned values of a stated width. Signed values do not occur in
this block, and arithmetic on an n-bit value wraps modulo 2^n, which is what BitVec arithmetic does. -/

namespace Sys2Proof

/-- `u8`: a byte of data memory, of a FIFO or of an operation word. -/
abbrev Byte := BitVec 8

/-- `u16`: an RTC register group, a mask or a byte count operand. -/
abbrev U16 := BitVec 16

/-- `u32`: the counter, the alarm, a data address or a callback argument. -/
abbrev U32 := BitVec 32

/-- `Addr = u32`: an address of data memory (20_memory.md R120). -/
abbrev Addr := BitVec 32

end Sys2Proof
end

