-- ==== Sys2Proof/Syntax.lean ====
section
/-! DEFINITION. The operations of the block: one constructor for each row of spec/opcode_table.json, in the table's
order, with its operands in the order of 30_encoding.md R141. An operand whose byte has illegal values (30_encoding.md
R142, R149) is typed so that no term holds an illegal one. -/

namespace Sys2Proof

/-- The RTC register groups (30_encoding.md R150). -/
inductive Group where
  | control | status0 | countLo | countHi | alarmLo | alarmHi | trim
deriving DecidableEq, Repr

/-- The DMA channels the block uses: `P_CH_M`, `P_CH_STX`, `P_CH_SRX` (10_state.md R75, 30_encoding.md R142). -/
inductive Chan where
  | m | stx | srx
deriving DecidableEq, Repr

/-- A bus direction: W, the master writes; R, the master reads (10_state.md R54, R62). -/
inductive Dir where
  | W | R
deriving DecidableEq, Repr

/-- The operations and events of 30_encoding.md R149. -/
inductive Instr where
  -- class 000: RTC operations (40_rtc_ops.md)
  | rtcInit (id : Byte)
  | rtcUnInit (h : Byte)
  | rtcClearFailSafe
  | rtcEnableDevice (h : Byte) (b : Bool)
  | rtcEnableAlarm (h : Byte) (b : Bool)
  | rtcEnableTrim (h : Byte) (b : Bool)
  | rtcEnableLcdUpdate (h : Byte) (b : Bool)
  | rtcEnableInterrupts (h : Byte) (mask : U16) (b : Bool)
  | rtcEnableSafeWrites (h : Byte) (b : Bool)
  | rtcGetCount (h : Byte)
  | rtcSetCount (h : Byte) (v : U32)
  | rtcGetAlarm (h : Byte)
  | rtcSetAlarm (h : Byte) (v : U32)
  | rtcGetTrim (h : Byte)
  | rtcSetTrim (h : Byte) (v : U16)
  | rtcGetInterruptStatus (h : Byte)
  | rtcClearInterruptStatus (h : Byte) (mask : U16)
  | rtcGetWritePendStatus (h : Byte)
  | rtcGetWriteSyncStatus (h : Byte)
  | rtcGetWriteErrorSource (h : Byte)
  | rtcSynchronizeAllWrites (h : Byte)
  | rtcRegisterCallback (h : Byte) (cb : Byte) (watch : U16)
  -- class 001: RTC slow-domain events (41_rtc_hw.md)
  | rtcAccept (g : Group)
  | rtcCommit (g : Group)
  | rtcSecond
  | rtcFailsafeLatch
  -- class 010: I2C operations (42_i2c_master.md, 43_i2c_slave.md)
  | i2cMasterInit (id : Byte)
  | i2cSlaveInit (id : Byte)
  | i2cUnInit (h : Byte)
  | i2cSetBlockingMode (h : Byte) (b : Bool)
  | i2cSetDmaMode (h : Byte) (b : Bool)
  | i2cSetSlaveAddress (h : Byte) (v : U16)
  | i2cSetTenBitAddressing (h : Byte) (b : Bool)
  | i2cSetClockStretch (h : Byte) (b : Bool)
  | i2cMasterTransmit (h : Byte) (sid : U16) (daddr : U32) (daw : Byte) (buf : Addr) (size : U16) (rs : Bool)
  | i2cMasterReceive (h : Byte) (sid : U16) (daddr : U32) (daw : Byte) (buf : Addr) (size : U16) (rs : Bool)
  | i2cSlaveTransmit (h : Byte) (buf : Addr) (size : U16)
  | i2cSlaveReceive (h : Byte) (buf : Addr) (size : U16)
  | i2cGetGeneralCall (h : Byte)
  | i2cGetStatus (h : Byte)
  | i2cRegisterCallback (h : Byte) (cb : Byte)
  -- class 011: I2C master engine events (42_i2c_master.md)
  | mAddrAck
  | mAddrNack
  | mTxByteAck
  | mTxByteNack
  | mTxEnd
  | mRxByte (b : Byte)
  | mRxEnd
  | mAlost
  -- class 100: I2C slave engine events (43_i2c_slave.md)
  | sAddrMatch (d : Dir)
  | sRxByte (b : Byte)
  | sTxByte
  | sTxUnderflow
  | sRepstart (d : Dir)
  | sStop
  | sGcall (b : Byte)
  -- class 101: interrupt-handler invocations
  | rtcIsr
  | i2cmIsr
  | i2csIsr
  | dmaIsr (c : Chan)
  -- class 110: DMA engine events (44_i2c_dma.md)
  | dmaXfer (c : Chan)
deriving DecidableEq, Repr

end Sys2Proof
end

