-- ==== Sys2Proof/Decode.lean ====
section
/-! DEFINITION. The decoder of operation words, total on any bytes, and the encoder (30_encoding.md R140-R149). -/

namespace Sys2Proof

/-- Why a word is illegal (30_encoding.md R145). -/
inductive DecodeError where
  /-- the opcode byte is not assigned in R149 -/
  | reservedOpcode
  /-- the word ends before its format's last byte (log 10) -/
  | truncated
  /-- a Bool byte is neither 0 nor 1 (R142) -/
  | badBool
  /-- a direction byte is neither 0 nor 1 (R149) -/
  | badDirection
  /-- a register group above 6 (R142) -/
  | badGroup
  /-- a channel index above 2 (R142) -/
  | badChannel
deriving DecidableEq, Repr

/-- The decoder's verdict on a word. -/
inductive Verdict where
  | legal (i : Instr)
  | illegal (e : DecodeError)
deriving DecidableEq, Repr

/-- The instruction of a legal word. -/
def Verdict.toOption : Verdict → Option Instr
  | .legal i => some i
  | .illegal _ => none

/-! ### Operand fields (30_encoding.md R141: little-endian; R142: zero-extended, no scaling) -/

/-- A u16 field from its two bytes, the low byte first. -/
def ofLe16 (b0 b1 : Byte) : U16 := b1 ++ b0

/-- A u32 field from its four bytes, the lowest first. -/
def ofLe32 (b0 b1 b2 b3 : Byte) : U32 := b3 ++ b2 ++ b1 ++ b0

/-- The bytes of a u16 field, the low byte first. -/
def toLe16 (v : U16) : List Byte := [v.extractLsb' 0 8, v.extractLsb' 8 8]

/-- The bytes of a u32 field, the lowest first. -/
def toLe32 (v : U32) : List Byte :=
  [v.extractLsb' 0 8, v.extractLsb' 8 8, v.extractLsb' 16 8, v.extractLsb' 24 8]

/-- A Bool byte: 0 is false and 1 is true (R142). -/
def boolOfByte (b : Byte) : Option Bool :=
  if b.toNat = 0 then some false else if b.toNat = 1 then some true else none

def byteOfBool (b : Bool) : Byte := if b then 1#8 else 0#8

/-- A direction byte: 0 is W and 1 is R (R142). -/
def dirOfByte (b : Byte) : Option Dir :=
  if b.toNat = 0 then some .W else if b.toNat = 1 then some .R else none

def byteOfDir : Dir → Byte
  | .W => 0#8
  | .R => 1#8

/-- The group numbers of R150. -/
def groupNumber : Group → Nat
  | .control => 0
  | .status0 => 1
  | .countLo => 2
  | .countHi => 3
  | .alarmLo => 4
  | .alarmHi => 5
  | .trim => 6

def groupOfByte (b : Byte) : Option Group :=
  match b.toNat with
  | 0 => some .control
  | 1 => some .status0
  | 2 => some .countLo
  | 3 => some .countHi
  | 4 => some .alarmLo
  | 5 => some .alarmHi
  | 6 => some .trim
  | _ => none

/-- The channel indexes of R142. -/
def chanNumber : Chan → Nat
  | .m => 0
  | .stx => 1
  | .srx => 2

def chanOfByte (b : Byte) : Option Chan :=
  match b.toNat with
  | 0 => some .m
  | 1 => some .stx
  | 2 => some .srx
  | _ => none

/-! ### The formats (30_encoding.md R141), each read from the bytes after the opcode -/

def decodeByte (f : Byte → Instr) : List Byte → Verdict
  | a :: _ => .legal (f a)
  | _ => .illegal .truncated

def decodeByteBool (f : Byte → Bool → Instr) : List Byte → Verdict
  | a :: b :: _ =>
    match boolOfByte b with
    | some v => .legal (f a v)
    | none => .illegal .badBool
  | _ => .illegal .truncated

def decodeByteU16 (f : Byte → U16 → Instr) : List Byte → Verdict
  | a :: v0 :: v1 :: _ => .legal (f a (ofLe16 v0 v1))
  | _ => .illegal .truncated

def decodeByteU32 (f : Byte → U32 → Instr) : List Byte → Verdict
  | a :: v0 :: v1 :: v2 :: v3 :: _ => .legal (f a (ofLe32 v0 v1 v2 v3))
  | _ => .illegal .truncated

def decodeMaskBool (f : Byte → U16 → Bool → Instr) : List Byte → Verdict
  | a :: v0 :: v1 :: b :: _ =>
    match boolOfByte b with
    | some v => .legal (f a (ofLe16 v0 v1) v)
    | none => .illegal .badBool
  | _ => .illegal .truncated

def decodeCallbackWatch (f : Byte → Byte → U16 → Instr) : List Byte → Verdict
  | a :: c :: w0 :: w1 :: _ => .legal (f a c (ofLe16 w0 w1))
  | _ => .illegal .truncated

def decodeByteByte (f : Byte → Byte → Instr) : List Byte → Verdict
  | a :: c :: _ => .legal (f a c)
  | _ => .illegal .truncated

def decodeMasterTransfer (f : Byte → U16 → U32 → Byte → Addr → U16 → Bool → Instr) : List Byte → Verdict
  | a :: s0 :: s1 :: d0 :: d1 :: d2 :: d3 :: w :: p0 :: p1 :: p2 :: p3 :: n0 :: n1 :: r :: _ =>
    match boolOfByte r with
    | some rs => .legal (f a (ofLe16 s0 s1) (ofLe32 d0 d1 d2 d3) w (ofLe32 p0 p1 p2 p3) (ofLe16 n0 n1) rs)
    | none => .illegal .badBool
  | _ => .illegal .truncated

def decodeSlaveTransfer (f : Byte → Addr → U16 → Instr) : List Byte → Verdict
  | a :: p0 :: p1 :: p2 :: p3 :: n0 :: n1 :: _ => .legal (f a (ofLe32 p0 p1 p2 p3) (ofLe16 n0 n1))
  | _ => .illegal .truncated

def decodeGroup (f : Group → Instr) : List Byte → Verdict
  | g :: _ =>
    match groupOfByte g with
    | some v => .legal (f v)
    | none => .illegal .badGroup
  | _ => .illegal .truncated

def decodeDir (f : Dir → Instr) : List Byte → Verdict
  | b :: _ =>
    match dirOfByte b with
    | some v => .legal (f v)
    | none => .illegal .badDirection
  | _ => .illegal .truncated

def decodeChan (f : Chan → Instr) : List Byte → Verdict
  | c :: _ =>
    match chanOfByte c with
    | some v => .legal (f v)
    | none => .illegal .badChannel
  | _ => .illegal .truncated

/-- The opcode map (30_encoding.md R149), read with the bytes after the opcode. -/
def decodeOperands (op : Nat) (r : List Byte) : Verdict :=
  match op with
  | 0x00 => decodeByte .rtcInit r
  | 0x01 => decodeByte .rtcUnInit r
  | 0x02 => .legal .rtcClearFailSafe
  | 0x03 => decodeByteBool .rtcEnableDevice r
  | 0x04 => decodeByteBool .rtcEnableAlarm r
  | 0x05 => decodeByteBool .rtcEnableTrim r
  | 0x06 => decodeByteBool .rtcEnableLcdUpdate r
  | 0x07 => decodeMaskBool .rtcEnableInterrupts r
  | 0x08 => decodeByteBool .rtcEnableSafeWrites r
  | 0x09 => decodeByte .rtcGetCount r
  | 0x0A => decodeByteU32 .rtcSetCount r
  | 0x0B => decodeByte .rtcGetAlarm r
  | 0x0C => decodeByteU32 .rtcSetAlarm r
  | 0x0D => decodeByte .rtcGetTrim r
  | 0x0E => decodeByteU16 .rtcSetTrim r
  | 0x0F => decodeByte .rtcGetInterruptStatus r
  | 0x10 => decodeByteU16 .rtcClearInterruptStatus r
  | 0x11 => decodeByte .rtcGetWritePendStatus r
  | 0x12 => decodeByte .rtcGetWriteSyncStatus r
  | 0x13 => decodeByte .rtcGetWriteErrorSource r
  | 0x14 => decodeByte .rtcSynchronizeAllWrites r
  | 0x15 => decodeCallbackWatch .rtcRegisterCallback r
  | 0x20 => decodeGroup .rtcAccept r
  | 0x21 => decodeGroup .rtcCommit r
  | 0x22 => .legal .rtcSecond
  | 0x23 => .legal .rtcFailsafeLatch
  | 0x40 => decodeByte .i2cMasterInit r
  | 0x41 => decodeByte .i2cSlaveInit r
  | 0x42 => decodeByte .i2cUnInit r
  | 0x43 => decodeByteBool .i2cSetBlockingMode r
  | 0x44 => decodeByteBool .i2cSetDmaMode r
  | 0x45 => decodeByteU16 .i2cSetSlaveAddress r
  | 0x46 => decodeByteBool .i2cSetTenBitAddressing r
  | 0x47 => decodeByteBool .i2cSetClockStretch r
  | 0x48 => decodeMasterTransfer .i2cMasterTransmit r
  | 0x49 => decodeMasterTransfer .i2cMasterReceive r
  | 0x4A => decodeSlaveTransfer .i2cSlaveTransmit r
  | 0x4B => decodeSlaveTransfer .i2cSlaveReceive r
  | 0x4C => decodeByte .i2cGetGeneralCall r
  | 0x4D => decodeByte .i2cGetStatus r
  | 0x4E => decodeByteByte .i2cRegisterCallback r
  | 0x60 => .legal .mAddrAck
  | 0x61 => .legal .mAddrNack
  | 0x62 => .legal .mTxByteAck
  | 0x63 => .legal .mTxByteNack
  | 0x64 => .legal .mTxEnd
  | 0x65 => decodeByte .mRxByte r
  | 0x66 => .legal .mRxEnd
  | 0x67 => .legal .mAlost
  | 0x80 => decodeDir .sAddrMatch r
  | 0x81 => decodeByte .sRxByte r
  | 0x82 => .legal .sTxByte
  | 0x83 => .legal .sTxUnderflow
  | 0x84 => decodeDir .sRepstart r
  | 0x85 => .legal .sStop
  | 0x86 => decodeByte .sGcall r
  | 0xA0 => .legal .rtcIsr
  | 0xA1 => .legal .i2cmIsr
  | 0xA2 => .legal .i2csIsr
  | 0xA3 => decodeChan .dmaIsr r
  | 0xC0 => decodeChan .dmaXfer r
  | _ => .illegal .reservedOpcode

/-- The decoder: the opcode byte alone gives the format (30_encoding.md R141). Bytes past the format's last byte are not
read (log 10). -/
def decode : List Byte → Verdict
  | [] => .illegal .truncated
  | op :: r => decodeOperands op.toNat r

/-- The opcode byte of an instruction (30_encoding.md R149). -/
def opcodeOf : Instr → Byte
  | .rtcInit _ => 0x00#8
  | .rtcUnInit _ => 0x01#8
  | .rtcClearFailSafe => 0x02#8
  | .rtcEnableDevice _ _ => 0x03#8
  | .rtcEnableAlarm _ _ => 0x04#8
  | .rtcEnableTrim _ _ => 0x05#8
  | .rtcEnableLcdUpdate _ _ => 0x06#8
  | .rtcEnableInterrupts _ _ _ => 0x07#8
  | .rtcEnableSafeWrites _ _ => 0x08#8
  | .rtcGetCount _ => 0x09#8
  | .rtcSetCount _ _ => 0x0A#8
  | .rtcGetAlarm _ => 0x0B#8
  | .rtcSetAlarm _ _ => 0x0C#8
  | .rtcGetTrim _ => 0x0D#8
  | .rtcSetTrim _ _ => 0x0E#8
  | .rtcGetInterruptStatus _ => 0x0F#8
  | .rtcClearInterruptStatus _ _ => 0x10#8
  | .rtcGetWritePendStatus _ => 0x11#8
  | .rtcGetWriteSyncStatus _ => 0x12#8
  | .rtcGetWriteErrorSource _ => 0x13#8
  | .rtcSynchronizeAllWrites _ => 0x14#8
  | .rtcRegisterCallback _ _ _ => 0x15#8
  | .rtcAccept _ => 0x20#8
  | .rtcCommit _ => 0x21#8
  | .rtcSecond => 0x22#8
  | .rtcFailsafeLatch => 0x23#8
  | .i2cMasterInit _ => 0x40#8
  | .i2cSlaveInit _ => 0x41#8
  | .i2cUnInit _ => 0x42#8
  | .i2cSetBlockingMode _ _ => 0x43#8
  | .i2cSetDmaMode _ _ => 0x44#8
  | .i2cSetSlaveAddress _ _ => 0x45#8
  | .i2cSetTenBitAddressing _ _ => 0x46#8
  | .i2cSetClockStretch _ _ => 0x47#8
  | .i2cMasterTransmit _ _ _ _ _ _ _ => 0x48#8
  | .i2cMasterReceive _ _ _ _ _ _ _ => 0x49#8
  | .i2cSlaveTransmit _ _ _ => 0x4A#8
  | .i2cSlaveReceive _ _ _ => 0x4B#8
  | .i2cGetGeneralCall _ => 0x4C#8
  | .i2cGetStatus _ => 0x4D#8
  | .i2cRegisterCallback _ _ => 0x4E#8
  | .mAddrAck => 0x60#8
  | .mAddrNack => 0x61#8
  | .mTxByteAck => 0x62#8
  | .mTxByteNack => 0x63#8
  | .mTxEnd => 0x64#8
  | .mRxByte _ => 0x65#8
  | .mRxEnd => 0x66#8
  | .mAlost => 0x67#8
  | .sAddrMatch _ => 0x80#8
  | .sRxByte _ => 0x81#8
  | .sTxByte => 0x82#8
  | .sTxUnderflow => 0x83#8
  | .sRepstart _ => 0x84#8
  | .sStop => 0x85#8
  | .sGcall _ => 0x86#8
  | .rtcIsr => 0xA0#8
  | .i2cmIsr => 0xA1#8
  | .i2csIsr => 0xA2#8
  | .dmaIsr _ => 0xA3#8
  | .dmaXfer _ => 0xC0#8

/-- The bytes of FMX after the opcode (30_encoding.md R141). -/
def encodeMasterTransfer (h : Byte) (sid : U16) (daddr : U32) (daw : Byte) (buf : Addr) (size : U16) (rs : Bool) :
    List Byte :=
  h :: (toLe16 sid ++ (toLe32 daddr ++ (daw :: (toLe32 buf ++ (toLe16 size ++ [byteOfBool rs])))))

/-- The bytes of FSX after the opcode (30_encoding.md R141). -/
def encodeSlaveTransfer (h : Byte) (buf : Addr) (size : U16) : List Byte := h :: (toLe32 buf ++ toLe16 size)

/-- The operand bytes of an instruction, in the layout of its format (30_encoding.md R141). -/
def operandBytes : Instr → List Byte
  | .rtcInit id => [id]
  | .rtcUnInit h => [h]
  | .rtcClearFailSafe => []
  | .rtcEnableDevice h b => [h, byteOfBool b]
  | .rtcEnableAlarm h b => [h, byteOfBool b]
  | .rtcEnableTrim h b => [h, byteOfBool b]
  | .rtcEnableLcdUpdate h b => [h, byteOfBool b]
  | .rtcEnableInterrupts h mask b => h :: (toLe16 mask ++ [byteOfBool b])
  | .rtcEnableSafeWrites h b => [h, byteOfBool b]
  | .rtcGetCount h => [h]
  | .rtcSetCount h v => h :: toLe32 v
  | .rtcGetAlarm h => [h]
  | .rtcSetAlarm h v => h :: toLe32 v
  | .rtcGetTrim h => [h]
  | .rtcSetTrim h v => h :: toLe16 v
  | .rtcGetInterruptStatus h => [h]
  | .rtcClearInterruptStatus h mask => h :: toLe16 mask
  | .rtcGetWritePendStatus h => [h]
  | .rtcGetWriteSyncStatus h => [h]
  | .rtcGetWriteErrorSource h => [h]
  | .rtcSynchronizeAllWrites h => [h]
  | .rtcRegisterCallback h cb watch => h :: cb :: toLe16 watch
  | .rtcAccept g => [BitVec.ofNat 8 (groupNumber g)]
  | .rtcCommit g => [BitVec.ofNat 8 (groupNumber g)]
  | .rtcSecond => []
  | .rtcFailsafeLatch => []
  | .i2cMasterInit id => [id]
  | .i2cSlaveInit id => [id]
  | .i2cUnInit h => [h]
  | .i2cSetBlockingMode h b => [h, byteOfBool b]
  | .i2cSetDmaMode h b => [h, byteOfBool b]
  | .i2cSetSlaveAddress h v => h :: toLe16 v
  | .i2cSetTenBitAddressing h b => [h, byteOfBool b]
  | .i2cSetClockStretch h b => [h, byteOfBool b]
  | .i2cMasterTransmit h sid daddr daw buf size rs => encodeMasterTransfer h sid daddr daw buf size rs
  | .i2cMasterReceive h sid daddr daw buf size rs => encodeMasterTransfer h sid daddr daw buf size rs
  | .i2cSlaveTransmit h buf size => encodeSlaveTransfer h buf size
  | .i2cSlaveReceive h buf size => encodeSlaveTransfer h buf size
  | .i2cGetGeneralCall h => [h]
  | .i2cGetStatus h => [h]
  | .i2cRegisterCallback h cb => [h, cb]
  | .mAddrAck => []
  | .mAddrNack => []
  | .mTxByteAck => []
  | .mTxByteNack => []
  | .mTxEnd => []
  | .mRxByte b => [b]
  | .mRxEnd => []
  | .mAlost => []
  | .sAddrMatch d => [byteOfDir d]
  | .sRxByte b => [b]
  | .sTxByte => []
  | .sTxUnderflow => []
  | .sRepstart d => [byteOfDir d]
  | .sStop => []
  | .sGcall b => [b]
  | .rtcIsr => []
  | .i2cmIsr => []
  | .i2csIsr => []
  | .dmaIsr c => [BitVec.ofNat 8 (chanNumber c)]
  | .dmaXfer c => [BitVec.ofNat 8 (chanNumber c)]

/-- The operation word of an instruction (30_encoding.md R140, R141, R149). -/
def encode (i : Instr) : List Byte := opcodeOf i :: operandBytes i

/-- Whether an instruction is one that the main context issues: class 000 or 010 (30_encoding.md R140). -/
def isOperation (i : Instr) : Bool :=
  let c := (opcodeOf i).toNat / 32
  c == 0 || c == 2

/-- The longest operation word, FMX (30_encoding.md R141). -/
def longestWord : Nat := 16

/-- The bytes of a word given as a number whose low 8 bits are byte 0, with every bit from nbits up 0. -/
def tableWordBytes (nbits w : Nat) : List Byte :=
  (List.range longestWord).map fun i => BitVec.ofNat 8 (w % 2 ^ nbits / 2 ^ (8 * i))

/-- The instruction the decoder reads from a word numbered as spec/opcode_table.json numbers it. -/
def decodeTableWord (nbits w : Nat) : Option Instr := (decode (tableWordBytes nbits w)).toOption

end Sys2Proof
end

