-- ==== Sys2Proof/Config.lean ====
section
/-! DEFINITION. What an implementation fixes (the OPEN parameters of 00_scope.md R9, and one of the model's own) and the free values of the draws
(00_scope.md R13, `choose`). The parameters are plain data carried by the machine's state and written by no step, so a
statement over all states holds for every value of them (log 2). -/

namespace Sys2Proof

/-- `P_TRIM_LAYOUT` (30_encoding.md R152): where the three trim fields lie in the 16-bit trim register. -/
structure TrimLayout where
  /-- the lowest bit of MAG, a field of 3 bits -/
  magLo : Nat
  /-- the bit of ADD -/
  addBit : Nat
  /-- the lowest bit of IVL, a field of 2 bits -/
  ivlLo : Nat
deriving DecidableEq, Repr

/-- `P_CH_M`, `P_CH_STX` and `P_CH_SRX` (00_scope.md R9, 10_state.md R75): the DMA channel ids. No rule depends on their
values (log 17). -/
structure ChannelIds where
  /-- `P_CH_M`, shared by master TX and master RX -/
  m : Nat
  /-- `P_CH_STX`, slave TX -/
  stx : Nat
  /-- `P_CH_SRX`, slave RX -/
  srx : Nat
deriving DecidableEq, Repr

/-- `P_PRIO` (00_scope.md R9): the interrupt priority of each line of 10_state.md R85. It cannot be observed, since
handlers do not nest (60_exceptions.md R532, R535; log 17). -/
structure LinePriorities where
  rtc : Nat
  i2cm : Nat
  i2cs : Nat
  dmaM : Nat
  dmaStx : Nat
  dmaSrx : Nat
deriving DecidableEq, Repr

/-- An entry of `P_REG_MAP` (00_scope.md R9): a register's address and the raw bit positions of its fields, by name. -/
structure RegPlace where
  register : String
  address : BitVec 32
  /-- each field and its lowest bit -/
  fields : List (String × Nat)
deriving DecidableEq, Repr

/-- The OPEN parameters of 00_scope.md R9, and one of the model's own. -/
structure Params where
  /-- `P_FIFO_DEPTH`, at least 1 -/
  fifoDepth : Nat
  /-- `P_DMA_MAX`, at least 1 -/
  dmaMax : Nat
  /-- `P_RTOS`: whether creating the semaphore at I2C Init may fail -/
  rtos : Bool
  /-- `P_MCTL_POR_EN`: the master-enable field of the power-on-default control value -/
  mctlPorEn : Bool
  /-- `P_RTC_DOMAIN_INDEP`: whether event RTC_FAILSAFE_LATCH exists -/
  rtcDomainIndep : Bool
  /-- whether RTC_FAILSAFE_LATCH needs the oscillator, where 10_state.md R33 says that it does and 41_rtc_hw.md R276 does
  not; no parameter of R9, but the model's own, so that both rules' readings are machines of the model (DESIGN CHOICE,
  log 26) -/
  latchNeedsOsc : Bool
  /-- `P_TRIM_LAYOUT` -/
  trimLayout : TrimLayout
  /-- `P_CH_M`, `P_CH_STX`, `P_CH_SRX` -/
  channelIds : ChannelIds
  /-- `P_PRIO` -/
  prio : LinePriorities
  /-- `P_REG_MAP`; no rule reads it, since registers are reached by name (20_memory.md R126; log 17) -/
  regMap : List RegPlace
deriving DecidableEq, Repr

/-- The default packing of 30_encoding.md R152: MAG in bits 2:0, ADD in bit 3, IVL in bits 5:4. -/
def defaultTrimLayout : TrimLayout := { magLo := 0, addBit := 3, ivlLo := 4 }

/-- The parameters that State.reset carries. DESIGN CHOICE, unsafe (log 2): R9 leaves them OPEN; these are the values of
95_test_vectors.md 0.1, and for `latchNeedsOsc` the condition of R276 as it is written (log 26). Of the priorities and the
register map the spec gives no value: all equal, and none listed (log 17). -/
def defaultParams : Params :=
  { fifoDepth := 2, dmaMax := 2, rtos := false, mctlPorEn := false, rtcDomainIndep := true,
    latchNeedsOsc := false, trimLayout := defaultTrimLayout
    channelIds := { m := 0, stx := 1, srx := 2 }
    prio := { rtc := 0, i2cm := 0, i2cs := 0, dmaM := 0, dmaStx := 0, dmaSrx := 0 }
    regMap := [] }

/-- The outcome of the n-th draw that the environment has not fixed: a free value, with no body, so that nothing can be
proved about it (00_scope.md R13; 93_implementation_defined.md W1-W5; log 3). A draw of a narrower type takes it modulo
the size of the type. -/
opaque Config.freeDraw : Nat → Nat

/-- `P_MAX_DADDR_W` (00_scope.md R9). -/
def maxDataAddrWidth : Nat := 4

/-- `P_RXCNT_LIMIT` (00_scope.md R9, 42_i2c_master.md R335). -/
def rxCountLimit : Nat := 256

/-- `P_MAX_LEN` (00_scope.md R9): the u16 size operand cannot exceed it (42_i2c_master.md R336). -/
def maxLength : Nat := 65535

end Sys2Proof
end

