-- ==== Sys2Proof/Machine/State.lean ====
section
/-! DEFINITION. The state of the block as plain data (10_state.md R30-R89), the reasons for stopping (60_exceptions.md
R524), and the state after reset (70_reset_and_hazards.md R581). -/

namespace Sys2Proof.Machine

/-! ### Reasons for stopping -/

/-- The model faults of 60_exceptions.md R524. A meaning records one in `model.fault` (00_scope.md R13); the next step
then answers it as the machine's fault. -/
inductive Fault where
  /-- a rule pushed to a full FIFO (20_memory.md R116); raised by the FIFO push; safe: the rules' own conditions exclude
  it, and the machine stops -/
  | fifoOverflow
  /-- a rule popped an empty FIFO (20_memory.md R116); raised by the FIFO pop; safe, for the same reason -/
  | fifoUnderflow
  /-- a DMA refill would overwrite an active slot (44_i2c_dma.md R480); raised by DMA_ISR; safe: the machine stops -/
  | dmaSlotMismatch
deriving DecidableEq, Repr

/-- The model refusals of 60_exceptions.md R524. A meaning records one in `model.refused` (00_scope.md R13); the next
step then answers it as the machine's refusal. -/
inductive Refusal where
  /-- an instruction without a meaning; raised by no arm of exec; safe -/
  | notModelled (mnemonic : String)
  /-- a reserved opcode or an illegal operand field (30_encoding.md R145); raised by the step that reads the word; safe -/
  | illegalOperation
  /-- an event opcode in a program (30_encoding.md R145); raised by the step that reads the word; safe -/
  | eventInProgram
  /-- a transfer of length 0 (42_i2c_master.md R336, 43_i2c_slave.md R412); raised by the four transfer operations; safe -/
  | zeroLengthTransfer
  /-- a DMA master transfer with a data address (42_i2c_master.md R336); raised by the master transfers; safe -/
  | dmaWithDataAddress
  /-- a schedule line names an event or handler that has no step (60_exceptions.md R544); raised by every event and
  handler; safe -/
  | eventNotEnabled
  /-- a schedule line names an operation of the main context, which R545 rules out; raised by the step that reads the
  line; the model's own name (log 12); safe -/
  | operationInSchedule
deriving DecidableEq, Repr

/-! ### The RTC (10_state.md R33-R46) -/

/-- One value for each RTC register group (30_encoding.md R150). -/
structure PerGroup (α : Type) where
  control : α
  status0 : α
  countLo : α
  countHi : α
  alarmLo : α
  alarmHi : α
  trim : α
deriving DecidableEq, Repr

/-- `rtc.*`: the RTC hardware. -/
structure RtcHw where
  /-- `rtc.oscOn` (R33) -/
  oscOn : Bool
  /-- `rtc.control` (R34), the committed control group -/
  control : U16
  /-- `rtc.status` (R35), the committed status group -/
  status : U16
  /-- `rtc.count` (R36) -/
  count : U32
  /-- `rtc.alarm` (R37) -/
  alarm : U32
  /-- `rtc.trim` (R38) -/
  trim : U16
  /-- `rtc.posted g` (R39), the one-deep posting buffers -/
  posted : PerGroup (Option U16)
  /-- `rtc.inflight g` (R39), the writes accepted and not yet effective -/
  inflight : PerGroup (Option U16)
  /-- `rtc.errSrc` (R41), 7 for none -/
  errSrc : BitVec 3
deriving DecidableEq, Repr

/-- `rtcd.*`: the RTC driver. -/
structure RtcDriver where
  /-- `rtcd.initialized` (R43) -/
  initialized : Bool
  /-- `rtcd.safeWrite` (R44) -/
  safeWrite : Bool
  /-- `rtcd.cb` (R45) -/
  cb : Option Byte
  /-- `rtcd.watch` (R45) -/
  watch : U16
deriving DecidableEq, Repr

/-! ### I2C hardware (10_state.md R50-R64) -/

/-- The phases of the master engine (R54). -/
inductive Phase where
  | idle | addrWait | data
deriving DecidableEq, Repr

/-- `i2c.m.ie` (R50). -/
structure MasterIe where
  txreq : Bool
  rxreq : Bool
  tcomp : Bool
  alost : Bool
  nackA : Bool
  nackD : Bool
deriving DecidableEq, Repr

/-- `i2c.m.*`: the master side. -/
structure MasterHw where
  /-- `i2c.m.en` (R50) -/
  en : Bool
  /-- `i2c.m.ie` (R50) -/
  ie : MasterIe
  /-- `i2c.m.dmaTx` (R50) -/
  dmaTx : Bool
  /-- `i2c.m.dmaRx` (R50) -/
  dmaRx : Bool
  /-- `i2c.m.adr1` (R51) -/
  adr1 : Byte
  /-- `i2c.m.adr2` (R51) -/
  adr2 : Byte
  /-- `i2c.m.rxcnt` (R52) -/
  rxcnt : U16
  /-- `i2c.m.extend` (R52) -/
  extend : Bool
  /-- `i2c.m.rxTarget` (R52) -/
  rxTarget : Nat
  /-- `i2c.m.txf` (R53), head oldest -/
  txf : List Byte
  /-- `i2c.m.rxf` (R53), head oldest -/
  rxf : List Byte
  /-- `i2c.m.busy` (R54) -/
  busy : Bool
  /-- `i2c.m.dir` (R54) -/
  dir : Dir
  /-- `i2c.m.phase` (R54) -/
  phase : Phase
  /-- `i2c.m.rsQueued` (R54) -/
  rsQueued : Bool
  /-- `i2c.m.busHeld` (R54) -/
  busHeld : Bool
  /-- `i2c.m.nrx` (R54) -/
  nrx : Nat
  /-- `i2c.m.tcomp` (R55) -/
  tcomp : Bool
  /-- `i2c.m.alost` (R55) -/
  alost : Bool
  /-- `i2c.m.nackA` (R55) -/
  nackA : Bool
  /-- `i2c.m.nackD` (R55) -/
  nackD : Bool
deriving DecidableEq, Repr

/-- `i2c.s.ie` (R60). -/
structure SlaveIe where
  rxreq : Bool
  txreq : Bool
  repstart : Bool
  stop : Bool
  gcall : Bool
deriving DecidableEq, Repr

/-- `i2c.s.*`: the slave side. -/
structure SlaveHw where
  /-- `i2c.s.en` (R60) -/
  en : Bool
  /-- `i2c.s.ie` (R60) -/
  ie : SlaveIe
  /-- `i2c.s.dmaTx` (R60) -/
  dmaTx : Bool
  /-- `i2c.s.dmaRx` (R60) -/
  dmaRx : Bool
  /-- `i2c.s.addr` (R60) -/
  addr : BitVec 10
  /-- `i2c.s.tenBit` (R60) -/
  tenBit : Bool
  /-- `i2c.s.txf` (R61), head oldest -/
  txf : List Byte
  /-- `i2c.s.rxf` (R61), head oldest -/
  rxf : List Byte
  /-- `i2c.s.busy` (R62) -/
  busy : Bool
  /-- `i2c.s.dir` (R62) -/
  dir : Dir
  /-- `i2c.s.clockHold` (R62) -/
  clockHold : Bool
  /-- `i2c.s.repstart` (R63) -/
  repstart : Bool
  /-- `i2c.s.stop` (R63) -/
  stop : Bool
  /-- `i2c.s.gcall` (R63) -/
  gcall : Bool
  /-- `i2c.s.gcId` (R63) -/
  gcId : Byte
deriving DecidableEq, Repr

/-- `BusEvent` (R77). -/
inductive BusEvent where
  | start
  | sr
  | stop
  | addr (b : Byte)
  | data (b : Byte)
  | ack
  | nack
  | alost
deriving DecidableEq, Repr

/-! ### Result codes (30_encoding.md R156, R170, R171) -/

/-- The RTC result codes (R156). -/
inductive RtcCode where
  | success | badInstance | badHandle | notInitialized | alreadyInitialized | badParam | clockFailsafe
deriving DecidableEq, Repr

/-- The I2C result codes (R170). -/
inductive I2CCode where
  | success | badInstance | badHandle | notInitialized | alreadyInitialized | badParam | badApiForMode
  | badModeCombination | dmaError | semaphoreError | busy | generalCallPending | masterAlost | masterNackAddress
  | masterNackData | stop | slaveGeneralCall | slaveRepeatStart | slaveReceivedStop
deriving DecidableEq, Repr

/-- `I2CResult` (R171): the outcomes that `i2cd.result` ranges over. -/
inductive I2CResult where
  | success | masterAlost | masterNackAddress | masterNackData | stop | slaveGeneralCall | slaveRepeatStart
  | slaveReceivedStop
deriving DecidableEq, Repr

/-- The code of a returned operation (30_encoding.md R143). -/
inductive ResultCode where
  | rtc (c : RtcCode)
  | i2c (c : I2CCode)
deriving DecidableEq, Repr

/-- The named outputs of a result record (30_encoding.md R143). An output that the rule does not write is absent. -/
structure Outputs where
  value : Option U32 := none
  handle : Option Byte := none
  pending : Option Bool := none
  cmd : Option Byte := none
  complete : Option Bool := none
  result : Option I2CResult := none
  txRem : Option Nat := none
  rxRem : Option Nat := none
  rxFilled : Option Nat := none
deriving DecidableEq, Repr

/-- `{op, code, out}` (30_encoding.md R143); `op` is the opcode byte (log 15). -/
structure ResultRecord where
  op : Byte
  code : ResultCode
  out : Outputs
deriving DecidableEq, Repr

/-! ### The I2C driver (10_state.md R66-R76) -/

/-- `i2cd.mode` (R66). -/
inductive Mode where
  | uninitialized | master | slave
deriving DecidableEq, Repr

/-- `i2cd.engine` (R67). -/
inductive Engine where
  | pio | dma
deriving DecidableEq, Repr

/-- A descriptor slot selector (30_encoding.md R182). -/
inductive Slot where
  | pri | alt
deriving DecidableEq, Repr

/-- `i2cd.*`: the I2C driver. -/
structure I2cDriver where
  /-- `i2cd.mode` (R66) -/
  mode : Mode
  /-- `i2cd.blocking` (R67) -/
  blocking : Bool
  /-- `i2cd.dma` (R67) -/
  dma : Bool
  /-- `i2cd.engine` (R67) -/
  engine : Engine
  /-- `i2cd.txPtr` (R68) -/
  txPtr : Addr
  /-- `i2cd.txRem` (R68) -/
  txRem : Nat
  /-- `i2cd.rxPtr` (R68) -/
  rxPtr : Addr
  /-- `i2cd.rxRem` (R68) -/
  rxRem : Nat
  /-- `i2cd.rxFilled` (R68) -/
  rxFilled : Nat
  /-- `i2cd.xferLen` (R68) -/
  xferLen : Nat
  /-- `i2cd.dataAddr` (R69) -/
  dataAddr : U32
  /-- `i2cd.daw` (R69) -/
  daw : Nat
  /-- `i2cd.rs` (R70) -/
  rs : Bool
  /-- `i2cd.firstFifo` (R70) -/
  firstFifo : Bool
  /-- `i2cd.tenBit` (R71) -/
  tenBit : Bool
  /-- `i2cd.slaveId` (R71) -/
  slaveId : BitVec 10
  /-- `i2cd.gcPending` (R72) -/
  gcPending : Bool
  /-- `i2cd.gcCmd` (R72) -/
  gcCmd : Byte
  /-- `i2cd.clockStretch` (R73) -/
  clockStretch : Bool
  /-- `i2cd.result` (R74) -/
  result : I2CResult
  /-- `i2cd.complete` (R74) -/
  complete : Bool
  /-- `i2cd.waitArmed` (R74) -/
  waitArmed : Bool
  /-- `i2cd.sem` (R74) -/
  sem : Bool
  /-- `i2cd.nextSlot` (R75) -/
  nextSlot : Slot
  /-- `i2cd.nextPtr` (R75) -/
  nextPtr : Addr
  /-- `i2cd.unsched` (R75) -/
  unsched : Nat
  /-- `i2cd.sharedIsRx` (R75) -/
  sharedIsRx : Bool
  /-- `i2cd.curCh` (R75) -/
  curCh : Chan
  /-- `i2cd.dmaOwned` (R75) -/
  dmaOwned : Bool
  /-- `i2cd.cb` (R76) -/
  cb : Option Byte
deriving DecidableEq, Repr

/-! ### The DMA engine (10_state.md R80, R81) -/

/-- The cycle modes of a descriptor (30_encoding.md R181). -/
inductive CycleMode where
  | invalid | pingpong
deriving DecidableEq, Repr

/-- `Desc` (R80). -/
structure Desc where
  mode : CycleMode
  ptr : Addr
  count : Nat
  toPeriph : Bool
deriving DecidableEq, Repr

/-- `dma.ch[c]` (R80). -/
structure Channel where
  /-- `slot[PRI]` -/
  pri : Desc
  /-- `slot[ALT]` -/
  alt : Desc
  /-- the slot the engine works on -/
  cur : Slot
  enabled : Bool
  /-- a completion interrupt latched -/
  done : Bool
deriving DecidableEq, Repr

/-- `dma.ch`, one for each channel the block uses. -/
structure DmaHw where
  m : Channel
  stx : Channel
  srx : Channel
deriving DecidableEq, Repr

/-! ### Interrupt controller, contexts and bookkeeping (10_state.md R84-R88) -/

/-- The interrupt lines (R85). -/
inductive Line where
  | rtc | i2cm | i2cs | dmaM | dmaStx | dmaSrx
deriving DecidableEq, Repr

/-- `nvic.en` (R85). -/
structure Nvic where
  rtc : Bool
  i2cm : Bool
  i2cs : Bool
  dmaM : Bool
  dmaStx : Bool
  dmaSrx : Bool
deriving DecidableEq, Repr

/-- The handlers (R84). -/
inductive Handler where
  | rtcIsr
  | i2cmIsr
  | i2csIsr
  | dmaIsr (c : Chan)
deriving DecidableEq, Repr

/-- Where a handler invocation stands: at its start, or holding in the `swStall` of RTC_ISR with the fired bits it has
still to clear (R84, 41_rtc_hw.md R280). -/
inductive HandlerPoint where
  | start
  | stall (fired : U16)
deriving DecidableEq, Repr

/-- `hnd.active` when set: the handler and its continuation (R84). -/
structure HandlerRun where
  handler : Handler
  point : HandlerPoint
deriving DecidableEq, Repr

/-- The conditions an operation awaits (00_scope.md R13). -/
inductive Await where
  /-- no write is posted to any of the groups: the safe-write stall (40_rtc_ops.md R230) -/
  | noPend (gs : List Group)
  /-- no write to any of the groups is posted or in flight (40_rtc_ops.md R202, R228) -/
  | noSync (gs : List Group)
  /-- the master engine is not busy (42_i2c_master.md R330) -/
  | masterIdle
  /-- `S_IDLE` (43_i2c_slave.md R413) -/
  | slaveIdle
  /-- the wait primitive's signal (60_exceptions.md R547) -/
  | signalled
  /-- never: the main context is stuck on a buffer access outside every declared region (20_memory.md R120; log 8) -/
  | never
deriving DecidableEq, Repr

/-- The hold points of the operations: which `await` or `wait()` of the pseudocode is being awaited. -/
inductive Point where
  /-- the operation's first or only safe-write stall, or its wait on SYNC -/
  | stall
  /-- the second safe-write stall: STATUS0 in RTC_Init and RTC_SetCount -/
  | statusStall
  /-- the idle wait before the addressing sub-transaction of I2C_MasterReceive -/
  | subIdle
  /-- the `wait()` of that sub-transaction -/
  | subDone
  /-- the idle wait before a transfer -/
  | idle
  /-- the `wait()` of a blocking transfer -/
  | done
deriving DecidableEq, Repr

/-- `main.k` (R31, R87): the start of the operation at `main.pc`, or a hold point inside it. -/
inductive MainPoint where
  | start
  | hold (c : Await) (p : Point)
deriving DecidableEq, Repr

/-- `main.*` (R86, R87) and the program that `main.pc` indexes (R31, 30_encoding.md R147). -/
structure MainCtx where
  /-- `main.crit` (R86) -/
  crit : Bool
  /-- `main.pc` (R87) -/
  pc : Nat
  /-- `main.k` (R87) -/
  k : MainPoint
  /-- `main.results` (R87), in program order -/
  results : List ResultRecord
  /-- the program's operation words (30_encoding.md R147) -/
  prog : List (List Byte)
deriving DecidableEq, Repr

/-- A declared buffer region `[base, base + size)` (20_memory.md R120, 30_encoding.md R147). -/
structure Region where
  base : Addr
  size : Nat
deriving DecidableEq, Repr

/-- A line of the schedule: which agent steps next (60_exceptions.md R544, R545; log 4). -/
inductive Turn where
  /-- one step of the main context, if it has one -/
  | main
  /-- a schedule line `@ E`: the operation word of an event or handler -/
  | event (w : List Byte)
  /-- a CORE reset (70_reset_and_hazards.md R580; log 13) -/
  | coreReset
  /-- a POR (70_reset_and_hazards.md R580; log 13) -/
  | por
deriving DecidableEq, Repr

/-- What comes from outside the block: the schedule and the draws. The model's own fields (log 3, log 4). -/
structure Env where
  /-- the schedule lines not yet taken -/
  sched : List Turn
  /-- whether the main context runs before each schedule line for as long as it has a step (60_exceptions.md R545) -/
  eager : Bool
  /-- the outcomes the environment has fixed for the next draws, oldest first -/
  tape : List Nat
  /-- how many draws have been left free -/
  drawn : Nat
deriving DecidableEq, Repr

/-- Data memory (20_memory.md R120) as (address, byte) pairs in one canonical form: addresses strictly rising, and no
byte equal to what an unlisted address reads as. -/
abbrev Memory := List Host.Cell

/-- The state of the block. -/
structure State where
  /-- `rtc.*` -/
  rtc : RtcHw
  /-- `rtcd.*` -/
  rtcd : RtcDriver
  /-- `i2c.m.*` -/
  m : MasterHw
  /-- `i2c.s.*` -/
  sl : SlaveHw
  /-- `i2cd.*` -/
  i2cd : I2cDriver
  /-- `i2c.trace` (R77), in bus order -/
  trace : List BusEvent
  /-- `dma.*` -/
  dma : DmaHw
  /-- `nvic.en` (R85) -/
  nvic : Nvic
  /-- `hnd.active` (R84) -/
  hnd : Option HandlerRun
  /-- `main.*` -/
  main : MainCtx
  /-- `app.cblog` (R88) -/
  cblog : List (Byte × U32)
  /-- `model.refused` (R88) -/
  refused : Option Refusal
  /-- `model.fault` (R88) -/
  fault : Option Fault
  /-- data memory (20_memory.md R120) -/
  mem : Memory
  /-- the declared buffer regions (20_memory.md R120) -/
  regions : List Region
  /-- the OPEN parameters (00_scope.md R9; log 2) -/
  cfg : Params
  /-- the environment -/
  env : Env
deriving DecidableEq, Repr

/-! ### Reset (70_reset_and_hazards.md R581) -/

/-- An empty pipeline stage for every group (R39). -/
def noWrites : PerGroup (Option U16) :=
  { control := none, status0 := none, countLo := none, countHi := none, alarmLo := none, alarmHi := none, trim := none }

/-- The RTC domain after a POR (R33-R41), given the values R581 leaves to a draw: the fields of the control group, the
ALARM and WERR bits, the counter, the alarm, the trim fields and the error source. -/
def RtcHw.por (control status : U16) (count alarm : U32) (trim : U16) (errSrc : BitVec 3) : RtcHw :=
  { oscOn := false, control, status, count, alarm, trim, posted := noWrites, inflight := noWrites, errSrc }

/-- `rtcd.*` after either reset (R43-R45). -/
def RtcDriver.reset : RtcDriver := { initialized := false, safeWrite := true, cb := none, watch := 0#16 }

/-- Every master interrupt enable off. -/
def MasterIe.none : MasterIe :=
  { txreq := false, rxreq := false, tcomp := false, alost := false, nackA := false, nackD := false }

/-- `i2c.m.*` after either reset (R50-R55); `en` is `P_MCTL_POR_EN`. -/
def MasterHw.reset (en : Bool) : MasterHw :=
  { en, ie := MasterIe.none, dmaTx := false, dmaRx := false, adr1 := 0#8, adr2 := 0#8, rxcnt := 0#16, extend := false,
    rxTarget := 0, txf := [], rxf := [], busy := false, dir := .W, phase := .idle, rsQueued := false, busHeld := false,
    nrx := 0, tcomp := false, alost := false, nackA := false, nackD := false }

/-- Every slave interrupt enable off. -/
def SlaveIe.none : SlaveIe := { rxreq := false, txreq := false, repstart := false, stop := false, gcall := false }

/-- `i2c.s.*` after either reset (R60-R63). -/
def SlaveHw.reset : SlaveHw :=
  { en := false, ie := SlaveIe.none, dmaTx := false, dmaRx := false, addr := 0#10, tenBit := false, txf := [],
    rxf := [], busy := false, dir := .W, clockHold := false, repstart := false, stop := false, gcall := false,
    gcId := 0#8 }

/-- `i2cd.*` after either reset (R66-R76). -/
def I2cDriver.reset : I2cDriver :=
  { mode := .uninitialized, blocking := false, dma := false, engine := .pio, txPtr := 0#32, txRem := 0, rxPtr := 0#32,
    rxRem := 0, rxFilled := 0, xferLen := 0, dataAddr := 0#32, daw := 0, rs := false, firstFifo := false,
    tenBit := false, slaveId := 0#10, gcPending := false, gcCmd := 0#8, clockStretch := false, result := .success,
    complete := true, waitArmed := false, sem := false, nextSlot := .pri, nextPtr := 0#32, unsched := 0,
    sharedIsRx := false, curCh := .m, dmaOwned := false, cb := none }

/-- An inactive descriptor of the given direction: `{INVALID, 0, 0, toPeriph}`. -/
def Desc.inactive (toPeriph : Bool) : Desc := { mode := .invalid, ptr := 0#32, count := 0, toPeriph }

/-- `dma.ch[c]` after either reset (R80). -/
def Channel.reset : Channel :=
  { pri := Desc.inactive false, alt := Desc.inactive false, cur := .pri, enabled := false, done := false }

/-- `dma.*` after either reset (R80). -/
def DmaHw.reset : DmaHw := { m := Channel.reset, stx := Channel.reset, srx := Channel.reset }

/-- `nvic.en` after either reset (R85). -/
def Nvic.reset : Nvic :=
  { rtc := false, i2cm := false, i2cs := false, dmaM := false, dmaStx := false, dmaSrx := false }

/-- `main.*` after either reset (R86, R87), with the program it holds. -/
def MainCtx.reset (prog : List (List Byte)) : MainCtx := { crit := false, pc := 0, k := .start, results := [], prog }

/-- The environment of State.reset: no schedule, the run convention of R545, no draw fixed (log 3, log 4). -/
def Env.reset : Env := { sched := [], eager := true, tape := [], drawn := 0 }

/-- The machine right after a POR with nothing loaded (R581). DESIGN CHOICE, unsafe (log 1): the values R581 leaves to a
draw are 0, and `errSrc` is 7, the value that means no lost write; (log 2): the parameters are those of
95_test_vectors.md 0.1. -/
def State.reset : State :=
  { rtc := RtcHw.por 0x0000#16 0x0004#16 0#32 0#32 0x0000#16 7#3
    rtcd := RtcDriver.reset
    m := MasterHw.reset defaultParams.mctlPorEn
    sl := SlaveHw.reset
    i2cd := I2cDriver.reset
    trace := []
    dma := DmaHw.reset
    nvic := Nvic.reset
    hnd := none
    main := MainCtx.reset []
    cblog := []
    refused := none
    fault := none
    mem := []
    regions := []
    cfg := defaultParams
    env := Env.reset }

end Sys2Proof.Machine
end

