-- ==== Sys2Proof/Machine/Fields.lean ====
section
/-! DEFINITION. Reading and writing one member of the indexed registers: a register group's pipeline stage (10_state.md
R39), a DMA channel and its slots (R80), an interrupt line's enable (R85). -/

namespace Sys2Proof.Machine

/-- The value of group `g`. -/
def PerGroup.get {α : Type} (p : PerGroup α) : Group → α
  | .control => p.control
  | .status0 => p.status0
  | .countLo => p.countLo
  | .countHi => p.countHi
  | .alarmLo => p.alarmLo
  | .alarmHi => p.alarmHi
  | .trim => p.trim

/-- Group `g` set to `v`. -/
def PerGroup.set {α : Type} (p : PerGroup α) (g : Group) (v : α) : PerGroup α :=
  match g with
  | .control => { p with control := v }
  | .status0 => { p with status0 := v }
  | .countLo => { p with countLo := v }
  | .countHi => { p with countHi := v }
  | .alarmLo => { p with alarmLo := v }
  | .alarmHi => { p with alarmHi := v }
  | .trim => { p with trim := v }

/-- The seven groups, by number (30_encoding.md R150). -/
def allGroups : List Group := [.control, .status0, .countLo, .countHi, .alarmLo, .alarmHi, .trim]

/-- Channel `c`. -/
def DmaHw.get (d : DmaHw) : Chan → Channel
  | .m => d.m
  | .stx => d.stx
  | .srx => d.srx

/-- Channel `c` set to `v`. -/
def DmaHw.set (d : DmaHw) (c : Chan) (v : Channel) : DmaHw :=
  match c with
  | .m => { d with m := v }
  | .stx => { d with stx := v }
  | .srx => { d with srx := v }

/-- The other slot. -/
def Slot.other : Slot → Slot
  | .pri => .alt
  | .alt => .pri

/-- The descriptor in slot `t`. -/
def Channel.slot (c : Channel) : Slot → Desc
  | .pri => c.pri
  | .alt => c.alt

/-- Slot `t` set to `d`. -/
def Channel.setSlot (c : Channel) (t : Slot) (d : Desc) : Channel :=
  match t with
  | .pri => { c with pri := d }
  | .alt => { c with alt := d }

/-- The enable of line `l`. -/
def Nvic.get (n : Nvic) : Line → Bool
  | .rtc => n.rtc
  | .i2cm => n.i2cm
  | .i2cs => n.i2cs
  | .dmaM => n.dmaM
  | .dmaStx => n.dmaStx
  | .dmaSrx => n.dmaSrx

/-- The enable of line `l` set to `b`. -/
def Nvic.set (n : Nvic) (l : Line) (b : Bool) : Nvic :=
  match l with
  | .rtc => { n with rtc := b }
  | .i2cm => { n with i2cm := b }
  | .i2cs => { n with i2cs := b }
  | .dmaM => { n with dmaM := b }
  | .dmaStx => { n with dmaStx := b }
  | .dmaSrx => { n with dmaSrx := b }

/-- `line(c)` (44_i2c_dma.md R471). -/
def lineOfChan : Chan → Line
  | .m => .dmaM
  | .stx => .dmaStx
  | .srx => .dmaSrx

/-! ### The same, of the whole state -/

/-- `rtc.posted g <- v`. -/
def State.setPosted (s : State) (g : Group) (v : Option U16) : State :=
  { s with rtc := { s.rtc with posted := s.rtc.posted.set g v } }

/-- `rtc.inflight g <- v`. -/
def State.setInflight (s : State) (g : Group) (v : Option U16) : State :=
  { s with rtc := { s.rtc with inflight := s.rtc.inflight.set g v } }

/-- `dma.ch[c] <- v`. -/
def State.setChannel (s : State) (c : Chan) (v : Channel) : State := { s with dma := s.dma.set c v }

/-- `nvic.en[l] <- b`. -/
def State.setLine (s : State) (l : Line) (b : Bool) : State := { s with nvic := s.nvic.set l b }

end Sys2Proof.Machine
end

