-- ==== Sys2Proof/Machine/Operands.lean ====
section
/-! DEFINITION. The operand forms: how the fields of an operand or a register are read and built (30_encoding.md R142 to
R171, 20_memory.md R102, R122). -/

namespace Sys2Proof.Machine

/-! ### Handles, instance ids and callback ids -/

/-- `RTC_H0` (10_state.md R46). -/
def rtcHandle : Byte := 0#8

/-- `I2C_H0` (42_i2c_master.md R328). -/
def i2cHandle : Byte := 0#8

/-- The one instance id of each device (00_scope.md R10). -/
def instanceId : Byte := 0#8

/-- A callback operand: 0 means none (30_encoding.md R142). -/
def callbackOperand (cb : Byte) : Option Byte := if cb = 0#8 then none else some cb

/-! ### The 32-bit split (20_memory.md R102, 40_rtc_ops.md R232) -/

/-- `v[15:0]`. -/
def lowHalf (v : U32) : U16 := v.extractLsb' 0 16

/-- `v[31:16]`. -/
def highHalf (v : U32) : U16 := v.extractLsb' 16 16

/-- `{hi, lo}`. -/
def joinHalves (hi lo : U16) : U32 := hi ++ lo

/-! ### Masks and fields of the RTC groups (30_encoding.md R151-R154) -/

/-- `CONTROL_MASK` (R151). -/
def controlMask : U16 := 0x003F#16

/-- `STATUS_MASK` (R153). -/
def statusMask : U16 := 0x0007#16

/-- `INT_MASK` (R153). -/
def intMask : U16 := 0x0003#16

/-- FAILSAFE alone (R153). -/
def failsafeMask : U16 := 0x0004#16

/-- Both interrupt enables of the control group, IE_ALARM and IE_WERR (R151). -/
def controlIeMask : U16 := 0x0030#16

/-- The interrupt enables of the status sources of `mask`: source s has control bit 4 + s (R151). -/
def interruptEnableBits (mask : U16) : U16 := (mask &&& intMask) <<< 4

/-- `TRIM_MASK`: the union of the three trim fields (R152). -/
def trimMask (l : TrimLayout) : U16 := (7#16 <<< l.magLo) ||| (1#16 <<< l.addBit) ||| (3#16 <<< l.ivlLo)

/-- MAG of a trim value, 0 to 7 ticks (R152). -/
def trimMagnitude (l : TrimLayout) (v : U16) : Nat := (v.extractLsb' l.magLo 3).toNat

/-- ADD of a trim value: true adds (R152). -/
def trimAdds (l : TrimLayout) (v : U16) : Bool := v.getLsbD l.addBit

/-- The trim interval in seconds, 2^(14 + IVL) (R152). -/
def trimInterval (l : TrimLayout) (v : U16) : Nat := 2 ^ (14 + (v.extractLsb' l.ivlLo 2).toNat)

/-! ### I2C addresses (30_encoding.md R162, R163) -/

/-- The read/write bit of an address byte: 0 a write, 1 a read. -/
def rwBit : Dir → BitVec 1
  | .W => 0#1
  | .R => 1#1

/-- `{sid[6:0], rw}`: the address byte of the 7-bit form (R162). -/
def address7 {w : Nat} (sid : BitVec w) (d : Dir) : Byte := sid.extractLsb' 0 7 ++ rwBit d

/-- `{0b11110, sid[9:8], rw}`: the first address byte of the 10-bit form (R162). -/
def address10First {w : Nat} (sid : BitVec w) (d : Dir) : Byte := 0b11110#5 ++ sid.extractLsb' 8 2 ++ rwBit d

/-- `sid[7:0]`: the second address byte of the 10-bit form (R162). -/
def address10Second {w : Nat} (sid : BitVec w) : Byte := sid.extractLsb' 0 8

/-- Whether an address lies beyond the addressing width (R163, 42_i2c_master.md R336). -/
def addressTooLarge (tenBit : Bool) (sid : U16) : Bool :=
  (!tenBit && decide (0x80 ≤ sid.toNat)) || decide (0x400 ≤ sid.toNat)

/-- The data-address byte sent when `w` bytes are left, `dataAddr[8*w-1 : 8*(w-1)]` (20_memory.md R122). -/
def dataAddressByte (dataAddr : U32) (w : Nat) : Byte := dataAddr.extractLsb' (8 * (w - 1)) 8

/-! ### Result codes (30_encoding.md R156, R170, R171) -/

/-- The number of an RTC result code (R156). -/
def rtcCodeNumber : RtcCode → Nat
  | .success => 0
  | .badInstance => 1
  | .badHandle => 2
  | .notInitialized => 3
  | .alreadyInitialized => 4
  | .badParam => 5
  | .clockFailsafe => 6

/-- The number of an I2C result code (R170). -/
def i2cCodeNumber : I2CCode → Nat
  | .success => 0
  | .badInstance => 1
  | .badHandle => 2
  | .notInitialized => 3
  | .alreadyInitialized => 4
  | .badParam => 5
  | .badApiForMode => 6
  | .badModeCombination => 7
  | .dmaError => 8
  | .semaphoreError => 9
  | .busy => 10
  | .generalCallPending => 11
  | .masterAlost => 12
  | .masterNackAddress => 13
  | .masterNackData => 14
  | .stop => 15
  | .slaveGeneralCall => 16
  | .slaveRepeatStart => 17
  | .slaveReceivedStop => 18

/-- A transaction outcome as a result code (R171). -/
def codeOfResult : I2CResult → I2CCode
  | .success => .success
  | .masterAlost => .masterAlost
  | .masterNackAddress => .masterNackAddress
  | .masterNackData => .masterNackData
  | .stop => .stop
  | .slaveGeneralCall => .slaveGeneralCall
  | .slaveRepeatStart => .slaveRepeatStart
  | .slaveReceivedStop => .slaveReceivedStop

/-- `zext_32(r)`: the outcome as a callback argument (60_exceptions.md R548). -/
def resultArgument (r : I2CResult) : U32 := BitVec.ofNat 32 (i2cCodeNumber (codeOfResult r))

end Sys2Proof.Machine
end

