-- ==== Sys2Proof/Machine/Flags.lean ====
section
/-! DEFINITION. The status flags and request conditions that the rules read, each computed from the state and none of
them stored (10_state.md R32, R40, R56, R64; 60_exceptions.md R530). -/

namespace Sys2Proof.Machine

/-! ### RTC -/

/-- The committed FAILSAFE bit, `rtc.status[2]` (10_state.md R42). -/
def failsafe (s : State) : Bool := s.rtc.status.getLsbD 2

/-- `PEND g` (10_state.md R40). -/
def pend (s : State) (g : Group) : Bool := (s.rtc.posted.get g).isSome

/-- `SYNC g` (10_state.md R40). -/
def sync (s : State) (g : Group) : Bool := (s.rtc.posted.get g).isSome || (s.rtc.inflight.get g).isSome

/-- The u16 whose bit g is `f g`, for the groups 0 to 6 (30_encoding.md R154). -/
def groupBits (f : Group → Bool) : U16 :=
  BitVec.ofNat 16 ((allGroups.map fun g => if f g then 2 ^ groupNumber g else 0).sum)

/-- The PEND mask (30_encoding.md R154). -/
def pendMask (s : State) : U16 := groupBits (pend s)

/-- The SYNC mask (30_encoding.md R154). -/
def syncMask (s : State) : U16 := groupBits (sync s)

/-- The enabled sources that are latched: `status & 0x0003 & ((control >> 4) & 0x0003)` (41_rtc_hw.md R280). -/
def rtcFired (s : State) : U16 := s.rtc.status &&& intMask &&& ((s.rtc.control >>> 4) &&& intMask)

/-- `RTC_REQ` (41_rtc_hw.md R281). -/
def rtcReq (s : State) : Bool := rtcFired s != 0#16

/-- The alarm condition of a second (41_rtc_hw.md R274): ALARM_EN, DEVICE_EN and `count = alarm`. -/
def alarmMatches (s : State) : Bool :=
  s.rtc.control.getLsbD 1 && s.rtc.control.getLsbD 0 && s.rtc.count == s.rtc.alarm

/-! ### I2C master (10_state.md R56, 42_i2c_master.md R370) -/

/-- `TXREQ_m` (R56). -/
def txreqM (s : State) : Bool := s.m.busy && s.m.dir == .W && decide (s.m.txf.length < s.cfg.fifoDepth)

/-- `RXREQ_m` (R56). -/
def rxreqM (s : State) : Bool := decide (0 < s.m.rxf.length)

/-- The FIFO part of `M_REQ`: a FIFO request with its enable (R370). -/
def fifoReqM (s : State) : Bool := (s.m.ie.txreq && txreqM s) || (s.m.ie.rxreq && rxreqM s)

/-- `M_REQ` (42_i2c_master.md R370). -/
def masterReq (s : State) : Bool :=
  fifoReqM s || (s.m.ie.tcomp && s.m.tcomp) || (s.m.ie.alost && s.m.alost) || (s.m.ie.nackA && s.m.nackA) ||
    (s.m.ie.nackD && s.m.nackD)

/-- The engine awaits the address step (42_i2c_master.md R360, R361). -/
def masterInAddress (s : State) : Bool := s.m.busy && s.m.phase == .addrWait

/-- The engine is in the data steps of a transfer of direction `d` (42_i2c_master.md R362-R366). -/
def masterInData (d : Dir) (s : State) : Bool := s.m.busy && s.m.phase == .data && s.m.dir == d

/-! ### I2C slave (10_state.md R64, 43_i2c_slave.md R413, R430) -/

/-- `RXREQ_s` (R64). -/
def rxreqS (s : State) : Bool := decide (0 < s.sl.rxf.length)

/-- `TXREQ_s` (R64). -/
def txreqS (s : State) : Bool := s.sl.busy && s.sl.dir == .R && decide (s.sl.txf.length < s.cfg.fifoDepth)

/-- `S_REQ` (43_i2c_slave.md R430). -/
def slaveReq (s : State) : Bool :=
  (s.sl.ie.rxreq && rxreqS s) || (s.sl.ie.txreq && txreqS s) || (s.sl.ie.repstart && s.sl.repstart) ||
    (s.sl.ie.stop && s.sl.stop) || (s.sl.ie.gcall && s.sl.gcall)

/-- `S_IDLE` (43_i2c_slave.md R413). -/
def slaveIdle (s : State) : Bool := !s.sl.busy || s.sl.clockHold

/-- The slave engine is in a transfer and not stretching the clock (43_i2c_slave.md, section 3). -/
def slaveMoving (s : State) : Bool := s.sl.busy && !s.sl.clockHold && !s.sl.repstart

/-! ### DMA (44_i2c_dma.md R465, R468, R469) -/

/-- `toPeriph(c)` (R468). -/
def toPeriph (s : State) : Chan → Bool
  | .m => !s.i2cd.sharedIsRx
  | .stx => true
  | .srx => false

/-- `DMA_REQ(c)` (R469). -/
def dmaReq (s : State) : Chan → Bool
  | .m =>
    (!s.i2cd.sharedIsRx && s.m.dmaTx && decide (s.m.txf.length < s.cfg.fifoDepth)) ||
      (s.i2cd.sharedIsRx && s.m.dmaRx && decide (0 < s.m.rxf.length))
  | .stx => s.sl.dmaTx && decide (s.sl.txf.length < s.cfg.fifoDepth)
  | .srx => s.sl.dmaRx && decide (0 < s.sl.rxf.length)

/-- A descriptor in PINGPONG mode is active (10_state.md R80). -/
def Desc.active (d : Desc) : Bool := d.mode == .pingpong

/-- The bytes an active slot has still to move, and 0 for an inactive one (R465). -/
def Desc.remaining (d : Desc) : Nat := if d.active then d.count else 0

/-- `dmaRemaining(c)` (R465). -/
def dmaRemaining (s : State) (c : Chan) : Nat :=
  s.i2cd.unsched + ((s.dma.get c).pri.remaining + (s.dma.get c).alt.remaining)

/-- The channel's current slot is active, the channel is enabled and its peripheral requests (R470). -/
def dmaCanMove (s : State) (c : Chan) : Bool :=
  (s.dma.get c).enabled && ((s.dma.get c).slot (s.dma.get c).cur).active && dmaReq s c

/-! ### Awaited conditions and the main context (00_scope.md R13, 60_exceptions.md R544) -/

/-- No group of the list is pending (40_rtc_ops.md R230). -/
def noPend (gs : List Group) (s : State) : Bool := gs.all fun g => !pend s g

/-- No group of the list is unsynchronized (40_rtc_ops.md R202, R228). -/
def noSync (gs : List Group) (s : State) : Bool := gs.all fun g => !sync s g

/-- Whether an awaited condition holds. -/
def Await.holds (s : State) : Await → Bool
  | .noPend gs => Machine.noPend gs s
  | .noSync gs => Machine.noSync gs s
  | .masterIdle => !s.m.busy
  | .slaveIdle => Machine.slaveIdle s
  | .signalled => s.i2cd.sem
  | .never => false

/-- The main context is at a start, or its awaited condition holds. -/
def MainPoint.ready (s : State) : MainPoint → Bool
  | .start => true
  | .hold c _ => c.holds s

/-- The main context has a step (60_exceptions.md R544, R535, R546): no handler is active, `main.pc` is inside the
program, and it is not holding or its awaited condition holds. -/
def mainReady (s : State) : Bool :=
  s.hnd.isNone && decide (s.main.pc < s.main.prog.length) && s.main.k.ready s

/-- A handler of line `l` may start (60_exceptions.md R530, R533, R542): its line is enabled and requesting, the main
context is in no critical region, and no handler is active. -/
def handlerCanStart (l : Line) (req : Bool) (s : State) : Bool :=
  s.nvic.get l && req && !s.main.crit && s.hnd.isNone

end Sys2Proof.Machine
end

