-- ==== Sys2Proof/Machine/Ops.lean ====
section
/-! DEFINITION. The named operations that the meanings share: draws, the posted-write pipeline (20_memory.md R104-R109),
FIFOs (R116), data memory (R120), callbacks and completion (60_exceptions.md R547-R549), holds and returns of the main
context (00_scope.md R13, 10_state.md R31), handler entry and return (60_exceptions.md R533, R535), the model's marks
(R524), and the two resets (70_reset_and_hazards.md R580). -/

namespace Sys2Proof.Machine

/-- The three outcomes of one step over this machine's types. -/
abbrev Result := Host.Outcome State Fault Refusal

/-- Why the pseudocode of a rule does not run to its end. -/
inductive Stop where
  /-- `fault(reason)` (00_scope.md R13) -/
  | fault (f : Fault)
  /-- `refuse(reason)` (00_scope.md R13) -/
  | refuse (r : Refusal)
  /-- the agent has no step: a buffer access outside every declared region (20_memory.md R120) -/
  | stuck
deriving DecidableEq, Repr

/-- The outcome of a piece of pseudocode: the state it leaves, or why it does not run. -/
abbrev Run := Except Stop State

/-! ### The model's marks (00_scope.md R13, 60_exceptions.md R524) -/

/-- `model.refused <- r`. -/
def State.refuse (s : State) (r : Refusal) : State := { s with refused := some r }

/-- `model.fault <- f`. -/
def State.markFault (s : State) (f : Fault) : State := { s with fault := some f }

/-! ### Draws (00_scope.md R13, `choose`; log 3) -/

/-- The next draw: the outcome the environment has fixed, else a free value. -/
def drawNat (s : State) : Nat × State :=
  match s.env.tape with
  | n :: rest => (n, { s with env := { s.env with tape := rest } })
  | [] => (Config.freeDraw s.env.drawn, { s with env := { s.env with drawn := s.env.drawn + 1 } })

/-- `choose x in {true, false}`. -/
def drawBool (s : State) : Bool × State := ((drawNat s).1 % 2 == 1, (drawNat s).2)

/-- `choose x in u<w>`. -/
def drawBits (w : Nat) (s : State) : BitVec w × State := (BitVec.ofNat w (drawNat s).1, (drawNat s).2)

/-! ### The posted-write pipeline -/

/-- `lostWrite(g, v)` (20_memory.md R105): which write survives is drawn; WERR and the error source are latched. -/
def lostWrite (g : Group) (v : U16) (s : State) : State :=
  let d := drawBool s
  let t := if d.1 then d.2.setPosted g (some v) else d.2
  { t with rtc := { t.rtc with status := t.rtc.status ||| 0x0002#16, errSrc := BitVec.ofNat 3 (groupNumber g) } }

/-- `post(g, v)` (20_memory.md R104). -/
def post (g : Group) (v : U16) (s : State) : State :=
  match s.rtc.posted.get g with
  | none => s.setPosted g (some v)
  | some _ => lostWrite g v s

/-- `rd(g)` (20_memory.md R107): the committed value. -/
def rd (s : State) : Group → U16
  | .control => s.rtc.control
  | .status0 => s.rtc.status
  | .countLo => lowHalf s.rtc.count
  | .countHi => highHalf s.rtc.count
  | .alarmLo => lowHalf s.rtc.alarm
  | .alarmHi => highHalf s.rtc.alarm
  | .trim => s.rtc.trim

/-- `w1c(v)` (20_memory.md R109). -/
def w1c (v : U16) (r : RtcHw) : RtcHw :=
  { r with
    status := r.status &&& ~~~(v &&& statusMask)
    errSrc := if (v &&& statusMask).getLsbD 1 then 7#3 else r.errSrc }

/-- `apply(g, v)` (20_memory.md R108): the effect of committing `v` to group `g`. -/
def applyWrite (layout : TrimLayout) (g : Group) (v : U16) (r : RtcHw) : RtcHw :=
  match g with
  | .control => { r with control := v &&& controlMask }
  | .status0 => w1c v r
  | .countLo => { r with count := joinHalves (highHalf r.count) v }
  | .countHi => { r with count := joinHalves v (lowHalf r.count) }
  | .alarmLo => { r with alarm := joinHalves (highHalf r.alarm) v }
  | .alarmHi => { r with alarm := joinHalves v (lowHalf r.alarm) }
  | .trim => { r with trim := v &&& trimMask layout }

/-! ### FIFOs (20_memory.md R116) -/

/-- `push(f, b)`. -/
def pushFifo (depth : Nat) (f : List Byte) (b : Byte) : Except Stop (List Byte) :=
  if f.length < depth then .ok (f ++ [b]) else .error (.fault .fifoOverflow)

/-- `pop(f)`: the head and what is left. -/
def popFifo (f : List Byte) : Except Stop (Byte × List Byte) :=
  match f with
  | b :: rest => .ok (b, rest)
  | [] => .error (.fault .fifoUnderflow)

/-- `push(i2c.m.txf, b)`. -/
def pushMTx (b : Byte) (s : State) : Run :=
  match pushFifo s.cfg.fifoDepth s.m.txf b with
  | .ok f => .ok { s with m := { s.m with txf := f } }
  | .error e => .error e

/-- `push(i2c.m.rxf, b)`. -/
def pushMRx (b : Byte) (s : State) : Run :=
  match pushFifo s.cfg.fifoDepth s.m.rxf b with
  | .ok f => .ok { s with m := { s.m with rxf := f } }
  | .error e => .error e

/-- `push(i2c.s.txf, b)`. -/
def pushSTx (b : Byte) (s : State) : Run :=
  match pushFifo s.cfg.fifoDepth s.sl.txf b with
  | .ok f => .ok { s with sl := { s.sl with txf := f } }
  | .error e => .error e

/-- `push(i2c.s.rxf, b)`. -/
def pushSRx (b : Byte) (s : State) : Run :=
  match pushFifo s.cfg.fifoDepth s.sl.rxf b with
  | .ok f => .ok { s with sl := { s.sl with rxf := f } }
  | .error e => .error e

/-- `pop(i2c.m.txf)`. -/
def popMTx (s : State) : Except Stop (Byte × State) :=
  match popFifo s.m.txf with
  | .ok (b, f) => .ok (b, { s with m := { s.m with txf := f } })
  | .error e => .error e

/-- `pop(i2c.m.rxf)`. -/
def popMRx (s : State) : Except Stop (Byte × State) :=
  match popFifo s.m.rxf with
  | .ok (b, f) => .ok (b, { s with m := { s.m with rxf := f } })
  | .error e => .error e

/-- `pop(i2c.s.txf)`. -/
def popSTx (s : State) : Except Stop (Byte × State) :=
  match popFifo s.sl.txf with
  | .ok (b, f) => .ok (b, { s with sl := { s.sl with txf := f } })
  | .error e => .error e

/-- `pop(i2c.s.rxf)`. -/
def popSRx (s : State) : Except Stop (Byte × State) :=
  match popFifo s.sl.rxf with
  | .ok (b, f) => .ok (b, { s with sl := { s.sl with rxf := f } })
  | .error e => .error e

/-! ### Data memory (20_memory.md R120) -/

/-- What an address that the memory does not list reads as: 0, as R147 of 30_encoding.md says of the bytes of a buffer
that its declaration does not list (log 9). -/
def unlistedByte : Byte := 0#8

/-- The byte at an address. -/
def Memory.read : Memory → Nat → Byte
  | [], _ => unlistedByte
  | (k, v) :: rest, a => if k = a then v else Memory.read rest a

/-- The byte at an address replaced, the canonical form kept. -/
def Memory.write : Memory → Nat → Byte → Memory
  | [], a, v => if v = unlistedByte then [] else [(a, v)]
  | (k, w) :: rest, a, v =>
    if a < k then (if v = unlistedByte then (k, w) :: rest else (a, v) :: (k, w) :: rest)
    else if a = k then (if v = unlistedByte then rest else (a, v) :: rest)
    else (k, w) :: Memory.write rest a v

/-- The canonical form: addresses strictly rising, no listed byte equal to what an unlisted address reads as. -/
abbrev Memory.wf (m : Memory) : Prop :=
  List.Pairwise (fun x y => x.1 < y.1) m ∧ ∀ c ∈ m, c.2 ≠ unlistedByte

/-- The address lies in a region. -/
def Region.contains (r : Region) (a : Addr) : Bool :=
  decide (r.base.toNat ≤ a.toNat) && decide (a.toNat < r.base.toNat + r.size)

/-- The address lies in a declared region (20_memory.md R120; log 20). -/
def declared (s : State) (a : Addr) : Bool := s.regions.any fun r => r.contains a

/-- `MemRead(a, 1)`. -/
def memRead (s : State) (a : Addr) : Except Stop Byte :=
  if declared s a then .ok (Memory.read s.mem a.toNat) else .error .stuck

/-- `MemWrite(a, 1, v)`. -/
def memWrite (a : Addr) (v : Byte) (s : State) : Run :=
  if declared s a then .ok { s with mem := Memory.write s.mem a.toNat v } else .error .stuck

/-! ### Trace, callbacks and completion -/

/-- `emit e` for each event of the list (00_scope.md R13). -/
def emit (es : List BusEvent) (s : State) : State := { s with trace := s.trace ++ es }

/-- `callback(f, arg)` if a callback is registered (60_exceptions.md R549). -/
def callback (cb : Option Byte) (arg : U32) (s : State) : State :=
  match cb with
  | some f => { s with cblog := s.cblog ++ [(f, arg)] }
  | none => s

/-- `signalCompletion(r)` (60_exceptions.md R548): the first completion of a transaction counts, a later one changes
nothing. -/
def signalCompletion (r : I2CResult) (s : State) : State :=
  if s.i2cd.complete then s
  else
    callback s.i2cd.cb (resultArgument r)
      { s with i2cd := { s.i2cd with result := r, complete := true, sem := s.i2cd.waitArmed || s.i2cd.sem } }

/-! ### The main context: holding and returning (00_scope.md R13, 10_state.md R31) -/

/-- The operation holds at point `p` until `c` holds. -/
def State.holdAt (s : State) (c : Await) (p : Point) : State := { s with main := { s.main with k := .hold c p } }

/-- `return`: the result record is appended, `main.pc` advances by one, and the next operation is at its start
(30_encoding.md R143, 10_state.md R31). -/
def ret (op : Byte) (code : ResultCode) (out : Outputs) (s : State) : State :=
  { s with
    main :=
      { s.main with
        pc := s.main.pc + 1
        k := .start
        results := s.main.results ++ [{ op, code, out }] } }

/-- `return` of an RTC operation with no outputs. -/
def retRtc (op : Byte) (c : RtcCode) (s : State) : Run := .ok (ret op (.rtc c) {} s)

/-- `return Success` of an RTC getter, with its value. -/
def retValue (op : Byte) (v : U32) (s : State) : Run := .ok (ret op (.rtc .success) { value := some v } s)

/-- `return` of an I2C operation with no outputs. -/
def retI2c (op : Byte) (c : I2CCode) (s : State) : Run := .ok (ret op (.i2c c) {} s)

/-- `await c` (00_scope.md R13): the rest runs in this step if the condition holds; otherwise the operation holds. -/
def awaitThen (c : Await) (p : Point) (rest : State → Run) (s : State) : Run :=
  if c.holds s then rest s else .ok (s.holdAt c p)

/-- `swStall(G)` (40_rtc_ops.md R230), then the rest. -/
def swStall (gs : List Group) (p : Point) (rest : State → Run) (s : State) : Run :=
  if s.rtcd.safeWrite then awaitThen (.noPend gs) p rest s else rest s

/-- What `wait()` does once it is signalled (60_exceptions.md R547). -/
def endWait (s : State) : State := { s with i2cd := { s.i2cd with sem := false, waitArmed := false } }

/-- `wait()` (60_exceptions.md R547), then the rest. -/
def waitThen (p : Point) (rest : State → Run) (s : State) : Run :=
  awaitThen .signalled p (fun t => rest (endWait t)) s

/-- An operation whose hold point is not one of its own has no step; no run reaches this (log 14). -/
def offPoint : State → Run := fun _ => .error .stuck

/-- The resumption of an operation that never holds. -/
def noResume (_ : Point) : State → Run := offPoint

/-- The resumption of an operation with the one hold point `q`. -/
def resumeAt (q : Point) (f : State → Run) (p : Point) : State → Run := if p = q then f else offPoint

/-! ### Steps of the agents (60_exceptions.md R540) -/

/-- Entering the critical region that every main segment is (60_exceptions.md R540, R542). -/
def enterCritical (s : State) : State := { s with main := { s.main with crit := true } }

/-- Leaving it. -/
def leaveCritical (s : State) : State := { s with main := { s.main with crit := false } }

/-- The end of a main-context step from `s`: the state the pseudocode left; a mark on `s` (00_scope.md R13; log 7); or,
on a buffer access outside every region, `s` with the main context stuck for good (20_memory.md R120; log 8). -/
def finishMain (s : State) : Run → Result
  | .ok t => .next (leaveCritical t)
  | .error (.fault f) => .next (s.markFault f)
  | .error (.refuse r) => .next (s.refuse r)
  | .error .stuck => .next (s.holdAt .never .stall)

/-- One step of the main context at an operation (60_exceptions.md R540, R544): from its start, or from the hold point
whose condition now holds. While a handler is active, or the condition does not hold, the main context has no step and
nothing changes. -/
def mainStep (start : State → Run) (resume : Point → State → Run) (s : State) : Result :=
  if s.hnd.isSome then .next s
  else
    match s.main.k with
    | .start => finishMain s (start (enterCritical s))
    | .hold c p => if c.holds s then finishMain s (resume p (enterCritical s)) else .next s

/-- The end of a step of another agent from `s`. An agent that is stuck has no step, so the line that named it named a
step that is not enabled (20_memory.md R120, 60_exceptions.md R544; log 8). -/
def finishAgent (s : State) : Run → Result
  | .ok t => .next t
  | .error (.fault f) => .next (s.markFault f)
  | .error (.refuse r) => .next (s.refuse r)
  | .error .stuck => .next (s.refuse .eventNotEnabled)

/-- One event of a hardware agent: its effect when it is enabled, else `refuse(EventNotEnabled)` (60_exceptions.md
R544). -/
def eventStep (enabled : State → Bool) (effect : State → Run) (s : State) : Result :=
  if enabled s then finishAgent s (effect s) else .next (s.refuse .eventNotEnabled)

/-- Handler entry (60_exceptions.md R533): `hnd.active <- some (H, start)`. Nothing else is saved. -/
def enterHandler (h : Handler) (s : State) : State := { s with hnd := some { handler := h, point := .start } }

/-- Handler return (60_exceptions.md R533): `hnd.active <- none`. Nothing else is restored; the main context goes on at
`main.k`. -/
def leaveHandler (s : State) : State := { s with hnd := none }

/-- One invocation of a handler that runs to its end in one step (60_exceptions.md R533, 10_state.md R84). -/
def handlerStep (h : Handler) (l : Line) (req : State → Bool) (body : State → Run) (s : State) : Result :=
  eventStep (fun t => handlerCanStart l (req t) t) (fun t => (body (enterHandler h t)).map leaveHandler) s

/-! ### The RTC domain after a loss of power, and the resets -/

/-- The values drawn when the RTC domain loses its power (41_rtc_hw.md R276, 70_reset_and_hazards.md R581). -/
structure RtcDraws where
  flags : BitVec 2
  count : U32
  alarm : U32
  control : U16
  trim : U16
  errSrc : BitVec 3
deriving DecidableEq, Repr

/-- The six draws, in the order of R276 (log 23). -/
def drawRtc (s : State) : RtcDraws × State :=
  let f := drawBits 2 s
  let c := drawBits 32 f.2
  let a := drawBits 32 c.2
  let k := drawBits 16 a.2
  let t := drawBits 16 k.2
  let e := drawBits 3 t.2
  ({ flags := f.1, count := c.1, alarm := a.1, control := k.1, trim := t.1, errSrc := e.1 }, e.2)

/-- The status register with FAILSAFE set, ALARM and WERR as drawn, and the bits above as they were. -/
def failsafeStatus (old : U16) (flags : BitVec 2) : U16 :=
  (old &&& ~~~0x0003#16) ||| 0x0004#16 ||| flags.setWidth 16

/-- Everything that both reset kinds reset (70_reset_and_hazards.md R581): all but the RTC domain, data memory and what
comes from outside (log 13). -/
def coreReset (s : State) : State :=
  { s with
    rtcd := RtcDriver.reset
    m := MasterHw.reset s.cfg.mctlPorEn
    sl := SlaveHw.reset
    i2cd := I2cDriver.reset
    trace := []
    dma := DmaHw.reset
    nvic := Nvic.reset
    hnd := none
    main := MainCtx.reset s.main.prog
    cblog := []
    refused := none
    fault := none }

/-- POR (70_reset_and_hazards.md R580, R581): the RTC domain as well, its open values drawn. -/
def porReset (s : State) : State :=
  let d := drawRtc s
  { coreReset d.2 with
    rtc := RtcHw.por (d.1.control &&& controlMask) (failsafeStatus 0x0000#16 d.1.flags) d.1.count d.1.alarm
      (d.1.trim &&& trimMask s.cfg.trimLayout) d.1.errSrc }

end Sys2Proof.Machine
end

