-- ==== Sys2Proof/Machine/Dma.lean ====
section
/-! DEFINITION. The DMA descriptor scheduler, the DMA engine and the DMA interrupt handler (44_i2c_dma.md R460-R481). -/

namespace Sys2Proof.Machine

/-! ### Channel ownership -/

/-- The channels of the instance (R463, R464). -/
def ownChannels (s : State) : List Chan := if s.i2cd.mode = .master then [.m] else [.stx, .srx]

/-- Each channel of the list at its reset value, and its line's enable set to `b` (R463, R464). -/
def setChannels (b : Bool) (cs : List Chan) (s : State) : State :=
  cs.foldl (fun t c => (t.setChannel c Channel.reset).setLine (lineOfChan c) b) s

/-- `dmaTakeChannels()` (R463): whether it succeeded, and the state. -/
def dmaTakeChannels (s : State) : Bool × State :=
  let d := drawBool s
  if d.1 then
    let t := setChannels true (ownChannels s) d.2
    (true, { t with i2cd := { t.i2cd with dmaOwned := true } })
  else (false, d.2)

/-- `dmaReleaseChannels()` (R464): whether it succeeded, and the state. -/
def dmaReleaseChannels (s : State) : Bool × State :=
  let d := drawBool s
  if d.1 then
    let t := setChannels false (ownChannels s) d.2
    (true, { t with i2cd := { t.i2cd with dmaOwned := false } })
  else (false, d.2)

/-! ### The scheduler -/

/-- `dmaSyncRem(c)` (R465). -/
def dmaSyncRem (c : Chan) (s : State) : State :=
  if toPeriph s c then { s with i2cd := { s.i2cd with txRem := dmaRemaining s c } }
  else { s with i2cd := { s.i2cd with rxRem := dmaRemaining s c } }

/-- `submit(c, s, d)` (R462). -/
def submit (c : Chan) (t : Slot) (d : Desc) (s : State) : State :=
  s.setChannel c ((s.dma.get c).setSlot t d)

/-- The length of the next chunk, `min(unsched, P_DMA_MAX)` (R461). -/
def nextChunk (s : State) : Nat := min s.i2cd.unsched s.cfg.dmaMax

/-- `scheduleNext()` (R461). -/
def scheduleNext (s : State) : State :=
  let c := s.i2cd.curCh
  let t := s.i2cd.nextSlot
  if 0 < s.i2cd.unsched then
    let n := nextChunk s
    let u := submit c t { mode := .pingpong, ptr := s.i2cd.nextPtr, count := n, toPeriph := toPeriph s c } s
    { u with
      i2cd :=
        { u.i2cd with
          nextPtr := s.i2cd.nextPtr + BitVec.ofNat 32 n
          unsched := s.i2cd.unsched - n
          nextSlot := t.other } }
  else
    let u := submit c t (Desc.inactive (toPeriph s c)) s
    { u with i2cd := { u.i2cd with nextSlot := t.other } }

/-- `dmaStart(c, buf, size)` (R460). -/
def dmaStart (c : Chan) (buf : Addr) (size : Nat) (s : State) : State :=
  let s1 := { s with i2cd := { s.i2cd with curCh := c, nextPtr := buf, unsched := size, nextSlot := .pri } }
  let s2 := s1.setChannel c { s1.dma.get c with cur := .pri, done := false }
  let s3 := scheduleNext (scheduleNext s2)
  dmaSyncRem c (s3.setChannel c { s3.dma.get c with enabled := true })

/-- `dmaStop(c)` (R467). -/
def dmaStop (c : Chan) (s : State) : State :=
  let t := s.setChannel c
    { s.dma.get c with
      enabled := false, done := false
      pri := Desc.inactive (toPeriph s c), alt := Desc.inactive (toPeriph s c) }
  { t with i2cd := { t.i2cd with unsched := 0 } }

/-! ### The engine -/

/-- The FIFO side of moving one element on channel `c` (R470): memory to FIFO, or FIFO to memory. `P_CH_STX` has no RX
FIFO and `P_CH_SRX` no TX FIFO (R468). -/
def moveElement (c : Chan) (d : Desc) (s : State) : Run :=
  if d.toPeriph then do
    let b ← memRead s d.ptr
    match c with
    | .m => pushMTx b s
    | .stx => pushSTx b s
    | .srx => .error .stuck
  else
    match c with
    | .m => do
      let p ← popMRx s
      memWrite d.ptr p.1 p.2
    | .srx => do
      let p ← popSRx s
      memWrite d.ptr p.1 p.2
    | .stx => .error .stuck

/-- The channel after one element has moved (R470). -/
def advanceChannel (ch : Channel) : Channel :=
  let t := ch.cur
  let d := ch.slot t
  let d1 := { d with ptr := d.ptr + 1#32, count := d.count - 1 }
  if d1.count = 0 then
    let ch1 := ch.setSlot t { d1 with mode := .invalid }
    { ch1 with
      done := true
      cur := t.other
      enabled := ch.enabled && (ch.slot t.other).active }
  else ch.setSlot t d1

/-- `DMA_XFER(c)` (R470). -/
def execDmaXfer (c : Chan) (s : State) : Result :=
  eventStep (fun t => dmaCanMove t c)
    (fun t => do
      let u ← moveElement c ((t.dma.get c).slot (t.dma.get c).cur) t
      .ok (u.setChannel c (advanceChannel (u.dma.get c))))
    s

/-! ### The handler -/

/-- `dmaDisableRequest(c)` (R480). -/
def dmaDisableRequest (c : Chan) (s : State) : State :=
  match c with
  | .m => { s with m := { s.m with dmaTx := false, dmaRx := false } }
  | .stx => { s with sl := { s.sl with dmaTx := false } }
  | .srx => { s with sl := { s.sl with dmaRx := false } }

/-- `i2cd.rxFilled <- i2cd.xferLen - i2cd.rxRem` on the slave receive channel (R466, R480). -/
def noteFilled (c : Chan) (s : State) : State :=
  if c = .srx then { s with i2cd := { s.i2cd with rxFilled := s.i2cd.xferLen - s.i2cd.rxRem } } else s

/-- Both slots inactive: the transfer is done (R480). -/
def dmaComplete (c : Chan) (s : State) : State :=
  let t := dmaSyncRem c (dmaDisableRequest c s)
  if t.i2cd.complete then t else signalCompletion .success (noteFilled c t)

/-- The body of `DMA_ISR(c)` (R480). -/
def dmaService (c : Chan) (s : State) : Run :=
  let t := s.setChannel c { s.dma.get c with done := false }
  if !t.i2cd.dmaOwned || c ≠ t.i2cd.curCh then .ok t
  else
    let pa := (t.dma.get c).pri.active
    let aa := (t.dma.get c).alt.active
    if !pa && !aa then .ok (dmaComplete c t)
    else if pa ≠ aa then
      if (if pa then Slot.alt else Slot.pri) ≠ t.i2cd.nextSlot then .error (.fault .dmaSlotMismatch)
      else .ok (dmaSyncRem c (scheduleNext t))
    else .ok t

/-- `DMA_ISR(c)` (R480). -/
def execDmaIsr (c : Chan) (s : State) : Result :=
  handlerStep (.dmaIsr c) (lineOfChan c) (fun t => (t.dma.get c).done) (dmaService c) s

end Sys2Proof.Machine
end

