-- ==== Sys2Proof/Machine/I2cOps.lean ====
section
/-! DEFINITION. The I2C operations of lifecycle and configuration, of both modes and of the slave's own (42_i2c_master.md
R320-R328, R346; 43_i2c_slave.md R400-R403), one meaning for each. -/

namespace Sys2Proof.Machine

/-! ### Common procedures -/

/-- `i2cGate(h, M)` (R328), then the rest. -/
def i2cGate (op h : Byte) (modes : List Mode) (rest : State → Run) (s : State) : Run :=
  if h ≠ i2cHandle then retI2c op .badHandle s
  else if s.i2cd.mode = .uninitialized then retI2c op .notInitialized s
  else if s.i2cd.mode ∈ modes then rest s
  else retI2c op .badApiForMode s

/-- Both modes. -/
def eitherMode : List Mode := [.master, .slave]

/-- `if not i2cd.complete: return Busy`, then the rest. -/
def ifComplete (op : Byte) (rest : State → Run) (s : State) : Run :=
  if s.i2cd.complete then rest s else retI2c op .busy s

/-- `resetMasterControl()` (R346). -/
def resetMasterControl (s : State) : State :=
  { s with m := { s.m with en := s.cfg.mctlPorEn, ie := MasterIe.none, dmaTx := false, dmaRx := false } }

/-- The slave control fields that R322 and R400 reset. -/
def resetSlaveControl (s : State) : State :=
  { s with sl := { s.sl with en := false, ie := SlaveIe.none, dmaTx := false, dmaRx := false, clockHold := false } }

/-- `i2cd` after an initialization in a mode: its reset values, blocking, PIO (R320, R400). -/
def initializedDriver (mode : Mode) : I2cDriver := { I2cDriver.reset with mode, blocking := true }

/-- The initialization of an instance (R320, R400): its checks, the semaphore's draw under `P_RTOS`, then `setup`, which
leaves the control fields and the line of the mode. -/
def i2cInit (op id : Byte) (mode : Mode) (setup : State → State) (s : State) : Run :=
  if id ≠ instanceId then retI2c op .badInstance s
  else if s.i2cd.mode ≠ .uninitialized then retI2c op .alreadyInitialized s
  else
    let d := if s.cfg.rtos then drawBool s else (true, s)
    if d.1 then
      .ok (ret op (.i2c .success) { handle := some i2cHandle } (setup { d.2 with i2cd := initializedDriver mode }))
    else retI2c op .semaphoreError d.2

/-- The control fields and the line of a master (R320). -/
def masterInitSetup (s : State) : State :=
  let t := resetMasterControl s
  State.setLine { t with m := { t.m with en := true } } .i2cm true

/-- The control fields and the line of a slave (R400). -/
def slaveInitSetup (s : State) : State := (resetSlaveControl s).setLine .i2cs true

/-! ### Lifecycle -/

/-- `I2C_MasterInit` (R320). -/
def execI2cMasterInit (id : Byte) (s : State) : Result :=
  mainStep (i2cInit 0x40#8 id .master masterInitSetup) noResume s

/-- `I2C_SlaveInit` (43_i2c_slave.md R400). -/
def execI2cSlaveInit (id : Byte) (s : State) : Result :=
  mainStep (i2cInit 0x41#8 id .slave slaveInitSetup) noResume s

/-- The end of `I2C_UnInit`, once no channel is owned (R322). -/
def unInitFinish (s : State) : Run :=
  let t := resetSlaveControl (resetMasterControl s)
  retI2c 0x42#8 .success { (t.setLine .i2cm false).setLine .i2cs false with i2cd := I2cDriver.reset }

/-- `I2C_UnInit` after its gate (R322). -/
def unInitBody (s : State) : Run :=
  if s.m.busy || s.sl.busy || !s.i2cd.complete then retI2c 0x42#8 .busy s
  else if s.i2cd.dmaOwned then
    let r := dmaReleaseChannels s
    if r.1 then unInitFinish r.2 else retI2c 0x42#8 .dmaError r.2
  else unInitFinish s

/-- `I2C_UnInit` (R322). -/
def execI2cUnInit (h : Byte) (s : State) : Result := mainStep (i2cGate 0x42#8 h eitherMode unInitBody) noResume s

/-! ### Configuration -/

/-- `I2C_SetBlockingMode` after its gate (R323). -/
def setBlockingBody (b : Bool) (s : State) : Run :=
  if b && s.i2cd.dma then retI2c 0x43#8 .badModeCombination s
  else retI2c 0x43#8 .success { s with i2cd := { s.i2cd with blocking := b } }

/-- `I2C_SetBlockingMode` (R323). -/
def execI2cSetBlockingMode (h : Byte) (b : Bool) (s : State) : Result :=
  mainStep (i2cGate 0x43#8 h eitherMode (ifComplete 0x43#8 (setBlockingBody b))) noResume s

/-- `I2C_SetDmaMode` after its gate (R324). -/
def setDmaBody (b : Bool) (s : State) : Run :=
  if b && s.i2cd.blocking then retI2c 0x44#8 .badModeCombination s
  else if b = s.i2cd.dma then retI2c 0x44#8 .success s
  else
    let r := if b then dmaTakeChannels s else dmaReleaseChannels s
    if r.1 then
      retI2c 0x44#8 .success { r.2 with i2cd := { r.2.i2cd with dma := b, engine := if b then .dma else .pio } }
    else retI2c 0x44#8 .dmaError r.2

/-- `I2C_SetDmaMode` (R324). -/
def execI2cSetDmaMode (h : Byte) (b : Bool) (s : State) : Result :=
  mainStep (i2cGate 0x44#8 h eitherMode (ifComplete 0x44#8 (setDmaBody b))) noResume s

/-- `I2C_SetTenBitAddressing` (R325). -/
def execI2cSetTenBitAddressing (h : Byte) (b : Bool) (s : State) : Result :=
  mainStep
    (i2cGate 0x46#8 h eitherMode
      (ifComplete 0x46#8 fun t => retI2c 0x46#8 .success { t with i2cd := { t.i2cd with tenBit := b } }))
    noResume s

/-- `I2C_SetSlaveAddress` after its gate (43_i2c_slave.md R401). -/
def setSlaveAddressBody (v : U16) (s : State) : Run :=
  if addressTooLarge s.i2cd.tenBit v then retI2c 0x45#8 .badParam s
  else retI2c 0x45#8 .success { s with i2cd := { s.i2cd with slaveId := v.setWidth 10 } }

/-- `I2C_SetSlaveAddress` (43_i2c_slave.md R401). -/
def execI2cSetSlaveAddress (h : Byte) (v : U16) (s : State) : Result :=
  mainStep (i2cGate 0x45#8 h [.slave] (ifComplete 0x45#8 (setSlaveAddressBody v))) noResume s

/-- `I2C_SetClockStretch` (43_i2c_slave.md R402). -/
def execI2cSetClockStretch (h : Byte) (b : Bool) (s : State) : Result :=
  mainStep
    (i2cGate 0x47#8 h [.slave] fun t =>
      retI2c 0x47#8 .success { t with i2cd := { t.i2cd with clockStretch := b } })
    noResume s

/-- `I2C_RegisterCallback` (R326). -/
def execI2cRegisterCallback (h cb : Byte) (s : State) : Result :=
  mainStep
    (i2cGate 0x4E#8 h eitherMode fun t =>
      retI2c 0x4E#8 .success { t with i2cd := { t.i2cd with cb := callbackOperand cb } })
    noResume s

/-! ### Status -/

/-- `I2C_GetGeneralCall` (43_i2c_slave.md R403). -/
def execI2cGetGeneralCall (h : Byte) (s : State) : Result :=
  mainStep
    (i2cGate 0x4C#8 h [.slave] fun t =>
      .ok (ret 0x4C#8 (.i2c .success) { pending := some t.i2cd.gcPending, cmd := some t.i2cd.gcCmd }
        { t with i2cd := { t.i2cd with gcPending := false } }))
    noResume s

/-- `I2C_GetStatus` (R327). -/
def execI2cGetStatus (h : Byte) (s : State) : Result :=
  mainStep
    (i2cGate 0x4D#8 h eitherMode fun t =>
      .ok (ret 0x4D#8 (.i2c .success)
        { complete := some t.i2cd.complete, result := some t.i2cd.result, txRem := some t.i2cd.txRem
          rxRem := some t.i2cd.rxRem, rxFilled := some t.i2cd.rxFilled }
        t))
    noResume s

end Sys2Proof.Machine
end

