-- ==== Sys2Proof/Machine/I2cMaster.lean ====
section
/-! DEFINITION. The master transfers and the procedures they share with the master handler (42_i2c_master.md R329-R336,
R340). -/

namespace Sys2Proof.Machine

/-! ### Common procedures -/

/-- `checkMaster(sid, daw, size)` (R336), then the rest. -/
def checkMaster (op : Byte) (sid : U16) (daw : Byte) (size : U16) (rest : State → Run) (s : State) : Run :=
  if maxDataAddrWidth < daw.toNat then retI2c op .badParam s
  else if addressTooLarge s.i2cd.tenBit sid then retI2c op .badParam s
  else if size = 0#16 then .error (.refuse .zeroLengthTransfer)
  else if s.i2cd.engine = .dma ∧ 0 < daw.toNat then .error (.refuse .dmaWithDataAddress)
  else rest s

/-- The direction a first address byte asks for, its bit 0 (R340). -/
def directionOf (b : Byte) : Dir := if b.getLsbD 0 then .R else .W

/-- `writeAdr1(b)` (R340): a launch when the side is enabled and idle, a queued repeated start during a transfer. -/
def writeAdr1 (b : Byte) (s : State) : State :=
  let t := { s with m := { s.m with adr1 := b } }
  if t.m.en && !t.m.busy then
    emit [if t.m.busHeld then .sr else .start]
      { t with
        m := { t.m with busy := true, dir := directionOf b, nrx := 0, busHeld := false, phase := .addrWait } }
  else if t.m.busy then { t with m := { t.m with rsQueued := true } }
  else t

/-- `launch(sid, rw)` (R329). -/
def launch (sid : U16) (d : Dir) (s : State) : State :=
  if s.i2cd.tenBit then
    writeAdr1 (address10First sid d) { s with m := { s.m with adr2 := address10Second sid } }
  else writeAdr1 (address7 sid d) s

/-- `setupCommon()` (R332). -/
def setupCommon (s : State) : State :=
  State.setLine
    { s with
      i2cd := { s.i2cd with complete := false, result := .success, sem := false, firstFifo := true }
      m :=
        { s.m with
          tcomp := false, alost := false, nackA := false, nackD := false, en := true
          ie := { s.m.ie with tcomp := true, alost := true, nackA := true, nackD := true } } }
    .i2cm true

/-- `pumpTx()` (R333). -/
def pumpTx (s : State) : Run :=
  if 0 < s.i2cd.daw then do
    let t ← pushMTx (dataAddressByte s.i2cd.dataAddr s.i2cd.daw) s
    .ok { t with i2cd := { t.i2cd with daw := t.i2cd.daw - 1 } }
  else if 0 < s.i2cd.txRem then do
    let b ← memRead s s.i2cd.txPtr
    let t ← pushMTx b s
    .ok { t with i2cd := { t.i2cd with txPtr := t.i2cd.txPtr + 1#32, txRem := t.i2cd.txRem - 1 } }
  else
    .ok (signalCompletion .success { s with m := { s.m with ie := { s.m.ie with txreq := false } } })

/-- The part of `pumpRx()` that moves one byte to the buffer (R334). -/
def pumpRxByte (s : State) : Run :=
  if 0 < s.i2cd.rxRem && decide (0 < s.m.rxf.length) then do
    let p ← popMRx s
    let t ← memWrite p.2.i2cd.rxPtr p.1 p.2
    .ok { t with i2cd := { t.i2cd with rxPtr := t.i2cd.rxPtr + 1#32, rxRem := t.i2cd.rxRem - 1 } }
  else .ok s

/-- The part of `pumpRx()` that completes the transaction (R334). -/
def pumpRxEnd (s : State) : State :=
  if s.i2cd.rxRem = 0 then
    signalCompletion .success { s with m := { s.m with ie := { s.m.ie with rxreq := false } } }
  else s

/-- `pumpRx()` (R334). -/
def pumpRx (s : State) : Run := (pumpRxByte s).map pumpRxEnd

/-- `programRxCount(n)` (R335, 30_encoding.md R164). -/
def programRxCount (n : Nat) (s : State) : State :=
  if n ≤ rxCountLimit then
    { s with m := { s.m with rxcnt := BitVec.ofNat 16 n, extend := false, rxTarget := n } }
  else { s with m := { s.m with rxcnt := 0#16, extend := true, rxTarget := n } }

/-! ### I2C_MasterTransmit -/

/-- The transfer fields of a master transmit (R330). -/
def transmitFields (sid : U16) (daddr : U32) (daw : Byte) (buf : Addr) (size : U16) (rs : Bool) (s : State) : State :=
  let t := setupCommon s
  { t with
    i2cd :=
      { t.i2cd with
        waitArmed := t.i2cd.blocking, rs, slaveId := sid.setWidth 10, dataAddr := daddr, daw := daw.toNat
        txPtr := buf, txRem := size.toNat, rxRem := 0 }
    m := { t.m with txf := [] } }

/-- The engine part of a master transmit: the pre-fill, or the start of the shared channel (R330). -/
def transmitEngine (buf : Addr) (size : U16) (rs : Bool) (s : State) : Run :=
  if s.i2cd.engine = .pio then pumpTx { s with m := { s.m with ie := { s.m.ie with txreq := true } } }
  else
    let t := dmaStart .m buf size.toNat { s with i2cd := { s.i2cd with sharedIsRx := false } }
    .ok { t with m := { t.m with dmaTx := true, ie := { t.m.ie with txreq := rs } } }

/-- The end of a master transfer once it has launched: the wait of a blocking call (R330, R331). -/
def transferReturn (op : Byte) (s : State) : Run := retI2c op (codeOfResult s.i2cd.result) s

/-- `if i2cd.blocking: wait(); return i2cd.result`, else `return SUCCESS` (R330, R331). -/
def transferEnd (op : Byte) (s : State) : Run :=
  if s.i2cd.blocking then waitThen .done (transferReturn op) s else retI2c op .success s

/-- `I2C_MasterTransmit` once the controller is idle (R330). -/
def transmitIdle (sid : U16) (daddr : U32) (daw : Byte) (buf : Addr) (size : U16) (rs : Bool) (s : State) : Run := do
  let t ← transmitEngine buf size rs (transmitFields sid daddr daw buf size rs s)
  transferEnd 0x48#8 (launch sid .W t)

/-- `I2C_MasterTransmit` (R330). -/
def execI2cMasterTransmit (h : Byte) (sid : U16) (daddr : U32) (daw : Byte) (buf : Addr) (size : U16) (rs : Bool)
    (s : State) : Result :=
  mainStep
    (i2cGate 0x48#8 h [.master]
      (checkMaster 0x48#8 sid daw size (awaitThen .masterIdle .idle (transmitIdle sid daddr daw buf size rs))))
    (fun p =>
      if p = .idle then transmitIdle sid daddr daw buf size rs
      else if p = .done then fun t => transferReturn 0x48#8 (endWait t)
      else offPoint)
    s

/-! ### I2C_MasterReceive -/

/-- The transfer fields of the addressing sub-transaction (R331). -/
def subFields (sid : U16) (daddr : U32) (daw : Byte) (rs : Bool) (s : State) : State :=
  let t := setupCommon s
  { t with
    i2cd :=
      { t.i2cd with
        waitArmed := true, rs, slaveId := sid.setWidth 10, dataAddr := daddr, daw := daw.toNat, txRem := 0
        rxRem := 0 }
    m := { t.m with txf := [], ie := { t.m.ie with txreq := true } } }

/-- The transfer fields of the data phase (R331). -/
def receiveFields (sid : U16) (buf : Addr) (size : U16) (rsRead : Bool) (s : State) : State :=
  let t := setupCommon s
  let u :=
    programRxCount size.toNat
      { t with
        i2cd :=
          { t.i2cd with
            waitArmed := t.i2cd.blocking, rs := rsRead, slaveId := sid.setWidth 10, daw := 0, rxPtr := buf
            rxRem := size.toNat, txRem := 0 } }
  { u with m := { u.m with rxf := [] } }

/-- The engine part of the data phase: the receive request enable, or the start of the shared channel (R331). -/
def receiveEngine (buf : Addr) (size : U16) (rsRead : Bool) (s : State) : State :=
  if s.i2cd.engine = .pio then { s with m := { s.m with ie := { s.m.ie with rxreq := true } } }
  else
    let t := dmaStart .m buf size.toNat { s with i2cd := { s.i2cd with sharedIsRx := true } }
    { t with m := { t.m with dmaRx := true, ie := { t.m.ie with rxreq := rsRead } } }

/-- The data phase once the controller is idle (R331). -/
def receiveIdle (sid : U16) (buf : Addr) (size : U16) (rsRead : Bool) (s : State) : Run :=
  transferEnd 0x49#8 (launch sid .R (receiveEngine buf size rsRead (receiveFields sid buf size rsRead s)))

/-- The data phase from its idle wait on (R331). -/
def receivePhase (sid : U16) (buf : Addr) (size : U16) (rsRead : Bool) : State → Run :=
  awaitThen .masterIdle .idle (receiveIdle sid buf size rsRead)

/-- The sub-transaction has been signalled: an error is returned at once, and success goes on to the data phase with no
repeated start of its own (R331). -/
def subEnd (sid : U16) (buf : Addr) (size : U16) (s : State) : Run :=
  if s.i2cd.result = .success then receivePhase sid buf size false s
  else retI2c 0x49#8 (codeOfResult s.i2cd.result) s

/-- The addressing sub-transaction once the controller is idle (R331). -/
def subTransaction (sid : U16) (daddr : U32) (daw : Byte) (buf : Addr) (size : U16) (rs : Bool) (s : State) : Run := do
  let t ← pumpTx (subFields sid daddr daw rs s)
  waitThen .subDone (subEnd sid buf size) (launch sid .W t)

/-- `rsRead` where the data phase resumes: the operand, or false after a sub-transaction (R331). -/
def readRepeat (daw : Byte) (rs : Bool) : Bool := if 0 < daw.toNat then false else rs

/-- `I2C_MasterReceive` after its checks (R331). -/
def receiveStart (sid : U16) (daddr : U32) (daw : Byte) (buf : Addr) (size : U16) (rs : Bool) (s : State) : Run :=
  if 0 < daw.toNat then awaitThen .masterIdle .subIdle (subTransaction sid daddr daw buf size rs) s
  else receivePhase sid buf size rs s

/-- `I2C_MasterReceive` (R331). -/
def execI2cMasterReceive (h : Byte) (sid : U16) (daddr : U32) (daw : Byte) (buf : Addr) (size : U16) (rs : Bool)
    (s : State) : Result :=
  mainStep
    (i2cGate 0x49#8 h [.master] (checkMaster 0x49#8 sid daw size (receiveStart sid daddr daw buf size rs)))
    (fun p =>
      if p = .subIdle then subTransaction sid daddr daw buf size rs
      else if p = .subDone then fun t => subEnd sid buf size (endWait t)
      else if p = .idle then receiveIdle sid buf size (readRepeat daw rs)
      else if p = .done then fun t => transferReturn 0x49#8 (endWait t)
      else offPoint)
    s

end Sys2Proof.Machine
end

