-- ==== Sys2Proof/Machine/I2cSlave.lean ====
section
/-! DEFINITION. The slave transfers (43_i2c_slave.md R410-R413). -/

namespace Sys2Proof.Machine

/-- `slaveCheck(size)` (R412), then the rest. -/
def slaveCheck (op : Byte) (size : U16) (rest : State → Run) (s : State) : Run :=
  if !s.i2cd.tenBit && decide (0x80 ≤ s.i2cd.slaveId.toNat) then retI2c op .badParam s
  else if size = 0#16 then .error (.refuse .zeroLengthTransfer)
  else rest s

/-- `slaveSetup(size)` (R412). -/
def slaveSetup (size : U16) (s : State) : State :=
  State.setLine
    { s with
      i2cd :=
        { s.i2cd with
          complete := false, result := .success, sem := false, waitArmed := s.i2cd.blocking
          xferLen := size.toNat, rxFilled := 0 }
      sl :=
        { s.sl with
          addr := s.i2cd.slaveId, tenBit := s.i2cd.tenBit, stop := false
          ie := { s.sl.ie with repstart := true, stop := true, gcall := true } } }
    .i2cs true

/-- One byte from the buffer to the slave TX FIFO (R410, R432). -/
def slaveTxByte (s : State) : Run := do
  let b ← memRead s s.i2cd.txPtr
  let t ← pushSTx b s
  .ok { t with i2cd := { t.i2cd with txPtr := t.i2cd.txPtr + 1#32, txRem := t.i2cd.txRem - 1 } }

/-- The synchronous first burst (R410): at most `n` turns of its loop. -/
def slaveBurst : Nat → State → Run
  | 0, s => .ok s
  | n + 1, s =>
    if 0 < s.i2cd.txRem && decide (s.sl.txf.length < s.cfg.fifoDepth) then do
      let t ← slaveTxByte s
      slaveBurst n t
    else .ok s

/-- The transfer fields of a slave transmit (R410). -/
def slaveTransmitFields (buf : Addr) (size : U16) (s : State) : State :=
  let t := slaveSetup size s
  { t with i2cd := { t.i2cd with txPtr := buf, txRem := size.toNat, rxRem := 0 }, sl := { t.sl with txf := [] } }

/-- The engine part of a slave transmit: the burst, or the start of its channel (R410). -/
def slaveTransmitEngine (buf : Addr) (size : U16) (s : State) : Run :=
  if s.i2cd.engine = .pio then do
    let t ← slaveBurst size.toNat s
    .ok { t with sl := { t.sl with ie := { t.sl.ie with txreq := true } } }
  else
    let t := dmaStart .stx buf size.toNat { s with i2cd := { s.i2cd with curCh := .stx } }
    .ok { t with sl := { t.sl with dmaTx := true } }

/-- The transfer fields of a slave receive (R411). -/
def slaveReceiveFields (buf : Addr) (size : U16) (s : State) : State :=
  let t := slaveSetup size s
  { t with i2cd := { t.i2cd with rxPtr := buf, rxRem := size.toNat, txRem := 0 } }

/-- The engine part of a slave receive: the receive request enable, or the start of its channel (R411). -/
def slaveReceiveEngine (buf : Addr) (size : U16) (s : State) : State :=
  if s.i2cd.engine = .pio then { s with sl := { s.sl with ie := { s.sl.ie with rxreq := true } } }
  else
    let t := dmaStart .srx buf size.toNat { s with i2cd := { s.i2cd with curCh := .srx } }
    { t with sl := { t.sl with dmaRx := true } }

/-- The clock hold released and the slave enabled (R410, R411). -/
def slaveRelease (s : State) : State := { s with sl := { s.sl with clockHold := false, en := true } }

/-- The return of a blocking slave call, with its counts (R410, R411). -/
def slaveReturn (op : Byte) (s : State) : Run :=
  .ok (ret op (.i2c (codeOfResult s.i2cd.result))
    { txRem := some s.i2cd.txRem, rxRem := some s.i2cd.rxRem, rxFilled := some s.i2cd.rxFilled } s)

/-- The end of a slave call: the wait of a blocking one, else `return SUCCESS` (R410, R411). -/
def slaveCallEnd (op : Byte) (s : State) : Run :=
  if s.i2cd.blocking then waitThen .done (slaveReturn op) s else retI2c op .success s

/-- `I2C_SlaveTransmit` once the engine is idle (R410). -/
def slaveTransmitIdle (buf : Addr) (size : U16) (s : State) : Run := do
  let t ← slaveTransmitEngine buf size (slaveTransmitFields buf size s)
  slaveCallEnd 0x4A#8 (slaveRelease t)

/-- `I2C_SlaveReceive` once the engine is idle (R411). -/
def slaveReceiveIdle (buf : Addr) (size : U16) (s : State) : Run :=
  slaveCallEnd 0x4B#8 (slaveRelease (slaveReceiveEngine buf size (slaveReceiveFields buf size s)))

/-- A slave call: its gate, the general call it refuses on, its checks and the idle wait, then `idle` (R410, R411). -/
def slaveCall (op h : Byte) (size : U16) (idle : State → Run) (s : State) : Result :=
  mainStep
    (i2cGate op h [.slave] fun t =>
      if t.i2cd.gcPending then retI2c op .generalCallPending t
      else slaveCheck op size (awaitThen .slaveIdle .idle idle) t)
    (fun p => if p = .idle then idle else if p = .done then fun t => slaveReturn op (endWait t) else offPoint)
    s

/-- `I2C_SlaveTransmit` (R410). -/
def execI2cSlaveTransmit (h : Byte) (buf : Addr) (size : U16) (s : State) : Result :=
  slaveCall 0x4A#8 h size (slaveTransmitIdle buf size) s

/-- `I2C_SlaveReceive` (R411). -/
def execI2cSlaveReceive (h : Byte) (buf : Addr) (size : U16) (s : State) : Result :=
  slaveCall 0x4B#8 h size (slaveReceiveIdle buf size) s

end Sys2Proof.Machine
end

