-- ==== Sys2Proof/Machine/MasterEngine.lean ====
section
/-! DEFINITION. The events of the master bus engine and the remote slave (42_i2c_master.md R360-R368). -/

namespace Sys2Proof.Machine

/-- The kinds of end of a transfer (R368). -/
inductive EndKind where
  | normal | nack | alost
deriving DecidableEq, Repr

/-- `mEnd(kind)` (R368). -/
def mEnd (k : EndKind) (s : State) : State :=
  let held := k == .normal && s.m.rsQueued
  emit (if held || k == .alost then [] else [.stop])
    { s with m := { s.m with busHeld := held, busy := false, phase := .idle, rsQueued := false } }

/-- The address bytes that the engine sends: `adr2` follows when `adr1` has the 10-bit prefix (R360). -/
def masterAddressEvents (s : State) : List BusEvent :=
  if s.m.adr1.extractLsb' 3 5 = 0b11110#5 then [.addr s.m.adr1, .addr s.m.adr2] else [.addr s.m.adr1]

/-- `M_ADDR_ACK` (R360). -/
def execMAddrAck (s : State) : Result :=
  eventStep masterInAddress
    (fun t =>
      .ok (emit (masterAddressEvents t ++ [.ack]) { t with m := { t.m with phase := .data } }))
    s

/-- `M_ADDR_NACK` (R361). -/
def execMAddrNack (s : State) : Result :=
  eventStep masterInAddress
    (fun t =>
      .ok (mEnd .nack (emit (masterAddressEvents t ++ [.nack]) { t with m := { t.m with nackA := true } })))
    s

/-- A write transfer with a byte to send (R362, R364). -/
def txByteEnabled (s : State) : Bool := masterInData .W s && decide (0 < s.m.txf.length)

/-- `M_TX_BYTE_ACK` (R362). -/
def execMTxByteAck (s : State) : Result :=
  eventStep txByteEnabled
    (fun t => do
      let p ← popMTx t
      .ok (emit [.data p.1, .ack] p.2))
    s

/-- `M_TX_BYTE_NACK` (R364). -/
def execMTxByteNack (s : State) : Result :=
  eventStep txByteEnabled
    (fun t => do
      let p ← popMTx t
      .ok (mEnd .nack (emit [.data p.1, .nack] { p.2 with m := { p.2.m with nackD := true } })))
    s

/-- The normal end of a transfer: `mEnd(normal); i2c.m.tcomp <- true` (R365, R366). -/
def normalEnd (s : State) : State :=
  let t := mEnd .normal s
  { t with m := { t.m with tcomp := true } }

/-- `M_TX_END` (R365). -/
def execMTxEnd (s : State) : Result :=
  eventStep (fun t => masterInData .W t && t.m.txf.length == 0) (fun t => .ok (normalEnd t)) s

/-- `M_RX_BYTE(b)` (R363). -/
def execMRxByte (b : Byte) (s : State) : Result :=
  eventStep
    (fun t => masterInData .R t && decide (t.m.nrx < t.m.rxTarget) && decide (t.m.rxf.length < t.cfg.fifoDepth))
    (fun t => do
      let u ← pushMRx b t
      let v := { u with m := { u.m with nrx := u.m.nrx + 1 } }
      .ok (emit [.data b, if v.m.nrx < v.m.rxTarget then .ack else .nack] v))
    s

/-- `M_RX_END` (R366). -/
def execMRxEnd (s : State) : Result :=
  eventStep (fun t => masterInData .R t && t.m.nrx == t.m.rxTarget) (fun t => .ok (normalEnd t)) s

/-- `M_ALOST` (R367). -/
def execMAlost (s : State) : Result :=
  eventStep (fun t => t.m.busy)
    (fun t => .ok (mEnd .alost (emit [.alost] { t with m := { t.m with alost := true } }))) s

end Sys2Proof.Machine
end

