-- ==== Sys2Proof/Machine/MasterIsr.lean ====
section
/-! DEFINITION. The master interrupt handler (42_i2c_master.md R370-R373). -/

namespace Sys2Proof.Machine

/-- The repeat-start check of the first FIFO service of a transaction (R371). -/
def repeatStartCheck (s : State) : State :=
  if s.i2cd.firstFifo then
    let t := { s with i2cd := { s.i2cd with firstFifo := false } }
    if t.i2cd.rs then writeAdr1 t.m.adr1 { t with i2cd := { t.i2cd with rs := false } } else t
  else s

/-- The data part of a FIFO service: a pump, or in DMA mode the FIFO requests turned off (R371). -/
def fifoPump (s : State) : Run :=
  if s.i2cd.engine = .pio then (if 0 < s.i2cd.rxRem then pumpRx s else pumpTx s)
  else .ok { s with m := { s.m with ie := { s.m.ie with txreq := false, rxreq := false } } }

/-- `fifoService()` (R371). -/
def fifoService (s : State) : Run := fifoPump (repeatStartCheck s)

/-- `tcompService()` (R372). -/
def tcompService (s : State) : State :=
  if decide (0 < s.m.rxf.length) && (s.i2cd.engine == .dma || decide (0 < s.i2cd.rxRem)) then s
  else signalCompletion .success { s with m := { s.m with tcomp := false } }

/-- An error bit is latched (R370). -/
def masterErrorLatched (s : State) : Bool := s.m.alost || s.m.nackA || s.m.nackD

/-- The outcome of the latched errors, by their precedence (R370). -/
def masterErrorResult (s : State) : I2CResult :=
  if s.m.alost then .masterAlost else if s.m.nackA then .masterNackAddress else .masterNackData

/-- The error bits cleared (R370). -/
def clearMasterErrors (s : State) : State :=
  { s with m := { s.m with alost := false, nackA := false, nackD := false } }

/-- The error service (R370, R373). -/
def masterError (s : State) : State :=
  let t := signalCompletion (masterErrorResult s) (resetMasterControl (clearMasterErrors s))
  { t with m := { t.m with tcomp := false } }

/-- The body of `I2CM_ISR` (R370). -/
def masterService (s : State) : Run :=
  if masterErrorLatched s then .ok (masterError s)
  else do
    let t ← if fifoReqM s then fifoService s else .ok s
    .ok (if t.m.tcomp then tcompService t else t)

/-- `I2CM_ISR` (R370). -/
def execI2cmIsr (s : State) : Result := handlerStep .i2cmIsr .i2cm masterReq masterService s

end Sys2Proof.Machine
end

