-- ==== Sys2Proof/Machine/RtcHw.lean ====
section
/-! DEFINITION. The events of the RTC slow domain and the RTC interrupt handler (41_rtc_hw.md R270-R281). -/

namespace Sys2Proof.Machine

/-- The oscillator runs, the group has a posted write and its in-flight stage is free (R270). -/
def acceptEnabled (g : Group) (s : State) : Bool :=
  s.rtc.oscOn && (s.rtc.posted.get g).isSome && (s.rtc.inflight.get g).isNone

/-- `RTC_ACCEPT(g)` (R270). -/
def execRtcAccept (g : Group) (s : State) : Result :=
  eventStep (acceptEnabled g) (fun t => .ok ((t.setInflight g (t.rtc.posted.get g)).setPosted g none)) s

/-- The oscillator runs and the group has a write in flight (R271). -/
def commitEnabled (g : Group) (s : State) : Bool := s.rtc.oscOn && (s.rtc.inflight.get g).isSome

/-- The effect of `RTC_COMMIT(g)` (R271). -/
def commitWrite (g : Group) (s : State) : State :=
  match s.rtc.inflight.get g with
  | some v => State.setInflight { s with rtc := applyWrite s.cfg.trimLayout g v s.rtc } g none
  | none => s

/-- `RTC_COMMIT(g)` (R271). -/
def execRtcCommit (g : Group) (s : State) : Result :=
  eventStep (commitEnabled g) (fun t => .ok (commitWrite g t)) s

/-- `alarmCompare()` (R274). -/
def alarmCompare (s : State) : State :=
  if alarmMatches s then { s with rtc := { s.rtc with status := s.rtc.status ||| 0x0001#16 } } else s

/-- `RTC_SECOND` (R273). Trim changes only when this event occurs, and no state (R275). -/
def execRtcSecond (s : State) : Result :=
  eventStep (fun t => t.rtc.oscOn && t.rtc.control.getLsbD 0)
    (fun t => .ok (alarmCompare { t with rtc := { t.rtc with count := t.rtc.count + 1#32 } })) s

/-- The RTC domain after `RTC_FAILSAFE_LATCH` with the values drawn (R276); the oscillator is unchanged. -/
def failsafeLatched (layout : TrimLayout) (d : RtcDraws) (r : RtcHw) : RtcHw :=
  { oscOn := r.oscOn
    control := d.control &&& controlMask
    status := failsafeStatus r.status d.flags
    count := d.count
    alarm := d.alarm
    trim := d.trim &&& trimMask layout
    posted := noWrites
    inflight := noWrites
    errSrc := d.errSrc }

/-- The event is enabled when `P_RTC_DOMAIN_INDEP` (R276). With the oscillator off R276 still has it enabled and 10_state.md
R33 does not, and no ruling decides: `latchNeedsOsc` is open. DESIGN CHOICE (log 26). -/
def failsafeLatchEnabled (s : State) : Bool := s.cfg.rtcDomainIndep && (s.rtc.oscOn || !s.cfg.latchNeedsOsc)

/-- `RTC_FAILSAFE_LATCH` (R276). -/
def execRtcFailsafeLatch (s : State) : Result :=
  eventStep failsafeLatchEnabled
    (fun t =>
      let d := drawRtc t
      .ok { d.2 with rtc := failsafeLatched t.cfg.trimLayout d.1 t.rtc })
    s

/-! ### The RTC interrupt handler -/

/-- The callback of `RTC_ISR`, when a watched bit has fired (R280). -/
def rtcCallback (fired : U16) (s : State) : State :=
  if fired &&& s.rtcd.watch ≠ 0#16 then callback s.rtcd.cb (fired.setWidth 32) s else s

/-- The end of `RTC_ISR`: the fired bits are cleared by a posted write, and the handler returns (R280). -/
def rtcIsrClear (fired : U16) (s : State) : State := leaveHandler (post .status0 fired s)

/-- `RTC_ISR` from its start: as far as its stall or its end (R280, 60_exceptions.md R533). -/
def rtcIsrStart (s : State) : State :=
  let fired := rtcFired s
  let t := rtcCallback fired (enterHandler .rtcIsr s)
  if t.rtcd.safeWrite && pend t .status0 then
    { t with hnd := some { handler := .rtcIsr, point := .stall fired } }
  else rtcIsrClear fired t

/-- `RTC_ISR` (R280): a holding invocation goes on when its stall ends (60_exceptions.md R533, R545); otherwise a new one
starts when it may. -/
def execRtcIsr (s : State) : Result :=
  match s.hnd with
  | some { handler := .rtcIsr, point := .stall fired } =>
    eventStep (fun t => !pend t .status0) (fun t => .ok (rtcIsrClear fired t)) s
  | _ => eventStep (fun t => handlerCanStart .rtc (rtcReq t) t) (fun t => .ok (rtcIsrStart t)) s

end Sys2Proof.Machine
end

