-- ==== Sys2Proof/Machine/RtcOps.lean ====
section
/-! DEFINITION. The RTC operations (40_rtc_ops.md R200-R232), one meaning for each. An operation is a start and, where it
can hold, what it does when it resumes (00_scope.md R13, R14). -/

namespace Sys2Proof.Machine

/-! ### Common procedures -/

/-- `gate(h, fsExempt)` (R231), then the rest. -/
def gate (op h : Byte) (fsExempt : Bool) (rest : State → Run) (s : State) : Run :=
  if h ≠ rtcHandle then retRtc op .badHandle s
  else if !s.rtcd.initialized then retRtc op .notInitialized s
  else if !fsExempt && failsafe s then retRtc op .clockFailsafe s
  else rest s

/-- `b ? (v | m) : (v & ~m)`. -/
def setOrClear (b : Bool) (v m : U16) : U16 := if b then v ||| m else v &&& ~~~m

/-- `ctlUpdate(m, b)` after its stall (R206). -/
def ctlUpdatePost (op : Byte) (m : U16) (b : Bool) (s : State) : Run :=
  retRtc op .success (post .control (setOrClear b (rd s .control) m) s)

/-- `ctlUpdate(m, b)` (R206). -/
def ctlUpdate (op : Byte) (m : U16) (b : Bool) : State → Run :=
  swStall [.control] .stall (ctlUpdatePost op m b)

/-- A gated control enable of the bits `m` (R203 to R207). -/
def controlEnable (op h : Byte) (m : U16) (b : Bool) (s : State) : Result :=
  mainStep (gate op h false (ctlUpdate op m b)) (resumeAt .stall (ctlUpdatePost op m b)) s

/-- A gated getter (R214 to R226). -/
def gatedGetter (op h : Byte) (value : State → U32) (s : State) : Result :=
  mainStep (gate op h false fun t => retValue op (value t) t) noResume s

/-- The paired read of a 32-bit value with the core line disabled around it (R214, R218, R232). -/
def pairedRead (op : Byte) (lo hi : Group) (s : State) : Run :=
  let saved := s.nvic.get .rtc
  let t := s.setLine .rtc false
  let l := rd t lo
  let u := rd t hi
  retValue op (joinHalves u l) (t.setLine .rtc saved)

/-- The posts of a split 32-bit write, low half first (R232). -/
def postSplit (lo hi : Group) (v : U32) (s : State) : State := post hi (highHalf v) (post lo (lowHalf v) s)

/-! ### Lifecycle -/

/-- `RTC_Init` from its second stall on (R200). -/
def rtcInitFinish (s : State) : Run :=
  let t := post .status0 0x0003#16 s
  .ok (ret 0x00#8 (.rtc .success) { handle := some rtcHandle }
    { t with
      rtcd := { t.rtcd with cb := none, watch := 0#16, initialized := true }
      nvic := t.nvic.set .rtc true })

/-- `RTC_Init` from its first stall on (R200). -/
def rtcInitControl (s : State) : Run :=
  swStall [.status0] .statusStall rtcInitFinish (post .control (rd s .control &&& ~~~controlIeMask) s)

/-- `RTC_Init` from its start (R200). -/
def rtcInitStart (id : Byte) (s : State) : Run :=
  if id ≠ instanceId then retRtc 0x00#8 .badInstance s
  else if s.rtcd.initialized then retRtc 0x00#8 .alreadyInitialized s
  else
    let t := { s with rtc := { s.rtc with oscOn := true } }
    if failsafe t then retRtc 0x00#8 .clockFailsafe t
    else swStall [.control] .stall rtcInitControl { t with rtcd := { t.rtcd with safeWrite := true } }

/-- `RTC_Init` (R200). -/
def execRtcInit (id : Byte) (s : State) : Result :=
  mainStep (rtcInitStart id)
    (fun p => if p = .stall then rtcInitControl else if p = .statusStall then rtcInitFinish else offPoint) s

/-- `RTC_UnInit` (R201). -/
def execRtcUnInit (h : Byte) (s : State) : Result :=
  mainStep
    (gate 0x01#8 h false fun t =>
      retRtc 0x01#8 .success
        { t with
          rtcd := { initialized := false, safeWrite := false, cb := none, watch := 0#16 }
          nvic := t.nvic.set .rtc false })
    noResume s

/-- `RTC_ClearFailSafe` once STATUS0 is synchronized (R202). -/
def clearFailSafePost (s : State) : Run := retRtc 0x02#8 .success (post .status0 failsafeMask s)

/-- `RTC_ClearFailSafe` (R202): no gate. -/
def execRtcClearFailSafe (s : State) : Result :=
  mainStep (awaitThen (.noSync [.status0]) .stall clearFailSafePost) (resumeAt .stall clearFailSafePost) s

/-! ### Control enables -/

/-- `RTC_EnableDevice` (R203): DEVICE_EN. -/
def execRtcEnableDevice (h : Byte) (b : Bool) (s : State) : Result := controlEnable 0x03#8 h 0x0001#16 b s

/-- `RTC_EnableAlarm` (R204): ALARM_EN. -/
def execRtcEnableAlarm (h : Byte) (b : Bool) (s : State) : Result := controlEnable 0x04#8 h 0x0002#16 b s

/-- `RTC_EnableTrim` (R205): TRIM_EN. -/
def execRtcEnableTrim (h : Byte) (b : Bool) (s : State) : Result := controlEnable 0x05#8 h 0x0004#16 b s

/-- `RTC_EnableLcdUpdate` (R207): LCD_EN. -/
def execRtcEnableLcdUpdate (h : Byte) (b : Bool) (s : State) : Result := controlEnable 0x06#8 h 0x0008#16 b s

/-- The core line of `RTC_EnableInterrupts` (R208). -/
def enableInterruptsLine (b : Bool) (s : State) : Run := retRtc 0x07#8 .success (s.setLine .rtc b)

/-- `RTC_EnableInterrupts` with a mask, after its stall (R208). -/
def enableInterruptsPost (mask : U16) (b : Bool) (s : State) : Run :=
  enableInterruptsLine b (post .control (setOrClear b (rd s .control) (interruptEnableBits mask)) s)

/-- `RTC_EnableInterrupts` (R208). -/
def execRtcEnableInterrupts (h : Byte) (mask : U16) (b : Bool) (s : State) : Result :=
  mainStep
    (gate 0x07#8 h false fun t =>
      if mask &&& ~~~intMask ≠ 0#16 then retRtc 0x07#8 .badParam t
      else if mask ≠ 0#16 then swStall [.control] .stall (enableInterruptsPost mask b) t
      else enableInterruptsLine b t)
    (resumeAt .stall (enableInterruptsPost mask b)) s

/-- `RTC_EnableSafeWrites` (R209). -/
def execRtcEnableSafeWrites (h : Byte) (b : Bool) (s : State) : Result :=
  mainStep
    (gate 0x08#8 h false fun t => retRtc 0x08#8 .success { t with rtcd := { t.rtcd with safeWrite := b } }) noResume s

/-! ### Counter, alarm and trim -/

/-- `RTC_GetCount` (R214). -/
def execRtcGetCount (h : Byte) (s : State) : Result :=
  mainStep (gate 0x09#8 h false (pairedRead 0x09#8 .countLo .countHi)) noResume s

/-- `RTC_SetCount` from its STATUS0 stall on (R215). -/
def setCountClear (s : State) : Run := retRtc 0x0A#8 .success (post .status0 failsafeMask s)

/-- `RTC_SetCount` from its first stall on (R215). -/
def setCountPost (v : U32) (s : State) : Run :=
  let t := postSplit .countLo .countHi v s
  if failsafe t then swStall [.status0] .statusStall setCountClear t else retRtc 0x0A#8 .success t

/-- `RTC_SetCount` (R215): not failsafe-gated. -/
def execRtcSetCount (h : Byte) (v : U32) (s : State) : Result :=
  mainStep (gate 0x0A#8 h true (swStall [.countLo, .countHi] .stall (setCountPost v)))
    (fun p => if p = .stall then setCountPost v else if p = .statusStall then setCountClear else offPoint) s

/-- `RTC_GetAlarm` (R218). -/
def execRtcGetAlarm (h : Byte) (s : State) : Result :=
  mainStep (gate 0x0B#8 h false (pairedRead 0x0B#8 .alarmLo .alarmHi)) noResume s

/-- `RTC_SetAlarm` after its stall (R219). -/
def setAlarmPost (v : U32) (s : State) : Run := retRtc 0x0C#8 .success (postSplit .alarmLo .alarmHi v s)

/-- `RTC_SetAlarm` (R219). -/
def execRtcSetAlarm (h : Byte) (v : U32) (s : State) : Result :=
  mainStep (gate 0x0C#8 h false (swStall [.alarmLo, .alarmHi] .stall (setAlarmPost v)))
    (resumeAt .stall (setAlarmPost v)) s

/-- `RTC_GetTrim` (R220). -/
def execRtcGetTrim (h : Byte) (s : State) : Result := gatedGetter 0x0D#8 h (fun t => (rd t .trim).setWidth 32) s

/-- `RTC_SetTrim` after its stall (R221). -/
def setTrimPost (v : U16) (s : State) : Run :=
  retRtc 0x0E#8 .success (post .trim (v &&& trimMask s.cfg.trimLayout) s)

/-- `RTC_SetTrim` (R221). -/
def execRtcSetTrim (h : Byte) (v : U16) (s : State) : Result :=
  mainStep (gate 0x0E#8 h false (swStall [.trim] .stall (setTrimPost v))) (resumeAt .stall (setTrimPost v)) s

/-! ### Interrupt status -/

/-- `RTC_GetInterruptStatus` (R222). -/
def execRtcGetInterruptStatus (h : Byte) (s : State) : Result :=
  gatedGetter 0x0F#8 h (fun t => (rd t .status0 &&& statusMask).setWidth 32) s

/-- `RTC_ClearInterruptStatus` after its stall (R223). -/
def clearStatusPost (mask : U16) (s : State) : Run := retRtc 0x10#8 .success (post .status0 mask s)

/-- `RTC_ClearInterruptStatus` (R223; 90_conflicts.md C1). -/
def execRtcClearInterruptStatus (h : Byte) (mask : U16) (s : State) : Result :=
  mainStep
    (gate 0x10#8 h true fun t =>
      if failsafe t && mask != failsafeMask then retRtc 0x10#8 .clockFailsafe t
      else if mask &&& ~~~statusMask ≠ 0#16 then retRtc 0x10#8 .badParam t
      else if mask = 0#16 then retRtc 0x10#8 .success t
      else swStall [.status0] .stall (clearStatusPost mask) t)
    (resumeAt .stall (clearStatusPost mask)) s

/-! ### Posted-write introspection -/

/-- `RTC_GetWritePendStatus` (R224). -/
def execRtcGetWritePendStatus (h : Byte) (s : State) : Result :=
  gatedGetter 0x11#8 h (fun t => (pendMask t).setWidth 32) s

/-- `RTC_GetWriteSyncStatus` (R225). -/
def execRtcGetWriteSyncStatus (h : Byte) (s : State) : Result :=
  gatedGetter 0x12#8 h (fun t => (syncMask t).setWidth 32) s

/-- `RTC_GetWriteErrorSource` (R226). -/
def execRtcGetWriteErrorSource (h : Byte) (s : State) : Result :=
  gatedGetter 0x13#8 h (fun t => t.rtc.errSrc.setWidth 32) s

/-- `RTC_SynchronizeAllWrites` (R228). -/
def execRtcSynchronizeAllWrites (h : Byte) (s : State) : Result :=
  mainStep (gate 0x14#8 h false (awaitThen (.noSync allGroups) .stall (retRtc 0x14#8 .success)))
    (resumeAt .stall (retRtc 0x14#8 .success)) s

/-! ### Callback -/

/-- `RTC_RegisterCallback` (R229). -/
def execRtcRegisterCallback (h cb : Byte) (watch : U16) (s : State) : Result :=
  mainStep
    (gate 0x15#8 h false fun t =>
      retRtc 0x15#8 .success { t with rtcd := { t.rtcd with cb := callbackOperand cb, watch := watch } })
    noResume s

end Sys2Proof.Machine
end

