-- ==== Sys2Proof/Machine/SlaveEngine.lean ====
section
/-! DEFINITION. The events of the slave bus engine and the remote master (43_i2c_slave.md R420-R427). -/

namespace Sys2Proof.Machine

/-- `sAddrBytes(rw)` as the events that show it (R427). -/
def slaveAddressEvents (d : Dir) (s : State) : List BusEvent :=
  if s.sl.tenBit then [.addr (address10First s.sl.addr d), .addr (address10Second s.sl.addr)]
  else [.addr (address7 s.sl.addr d)]

/-- The slave is enabled and in no transfer (R420, R426). -/
def slaveAddressable (s : State) : Bool := s.sl.en && !s.sl.busy

/-- `S_ADDR_MATCH(b)` (R420). One ACK follows all the address bytes, also the two of a 10-bit address: the pseudocode can
be read as one ACK after each. DEDUCED (log 27). -/
def execSAddrMatch (d : Dir) (s : State) : Result :=
  eventStep slaveAddressable
    (fun t =>
      .ok (emit (.start :: (slaveAddressEvents d t ++ [.ack])) { t with sl := { t.sl with busy := true, dir := d } }))
    s

/-- `S_RX_BYTE(b)` (R421). -/
def execSRxByte (b : Byte) (s : State) : Result :=
  eventStep (fun t => slaveMoving t && t.sl.dir == .W && decide (t.sl.rxf.length < t.cfg.fifoDepth))
    (fun t => (pushSRx b t).map (emit [.data b, .ack])) s

/-- `S_TX_BYTE` (R422). -/
def execSTxByte (s : State) : Result :=
  eventStep (fun t => slaveMoving t && t.sl.dir == .R && decide (0 < t.sl.txf.length))
    (fun t => do
      let p ← popSTx t
      .ok (emit [.data p.1, .ack] p.2))
    s

/-- `S_TX_UNDERFLOW` (R423): the byte on the bus is drawn. -/
def execSTxUnderflow (s : State) : Result :=
  eventStep (fun t => slaveMoving t && t.sl.dir == .R && t.sl.txf.length == 0)
    (fun t => .ok (emit [.data (drawBits 8 t).1, .ack] (drawBits 8 t).2)) s

/-- `S_REPSTART(b)` (R424). One ACK follows all the address bytes, as in `execSAddrMatch` (log 27). -/
def execSRepstart (d : Dir) (s : State) : Result :=
  eventStep slaveMoving
    (fun t =>
      .ok (emit (.sr :: (slaveAddressEvents d t ++ [.ack])) { t with sl := { t.sl with repstart := true, dir := d } }))
    s

/-- `S_STOP` (R425). -/
def execSStop (s : State) : Result :=
  eventStep slaveMoving (fun t => .ok (emit [.stop] { t with sl := { t.sl with stop := true, busy := false } })) s

/-- `S_GCALL(b)` (R426). -/
def execSGcall (b : Byte) (s : State) : Result :=
  eventStep slaveAddressable
    (fun t =>
      .ok (emit [.start, .addr 0x00#8, .ack, .data b, .ack]
        { t with sl := { t.sl with busy := true, dir := .W, gcall := true, gcId := b } }))
    s

end Sys2Proof.Machine
end

