-- ==== Sys2Proof/Machine/SlaveIsr.lean ====
section
/-! DEFINITION. The slave interrupt handler (43_i2c_slave.md R430-R436; 44_i2c_dma.md R466). -/

namespace Sys2Proof.Machine

/-- One pass of the handler: the state, and its local variables `exit` and `noted` (R430). -/
structure Pass where
  st : State
  exit : Option I2CResult
  noted : Bool
deriving DecidableEq, Repr

/-- `exit <- r`, unless an exit is set already. -/
def Pass.exitIfNone (p : Pass) (r : I2CResult) : Pass := { p with exit := some (p.exit.getD r) }

/-- A byte received for the active call (R431). -/
def storeSlaveByte (x : Byte) (s : State) : Run := do
  let t ← memWrite s.i2cd.rxPtr x s
  .ok { t with
    i2cd :=
      { t.i2cd with
        rxPtr := t.i2cd.rxPtr + 1#32, rxRem := t.i2cd.rxRem - 1, rxFilled := t.i2cd.rxFilled + 1 } }

/-- `onSlaveRX()` (R431). -/
def onSlaveRx (p : Pass) : Except Stop Pass := do
  let x ← popSRx p.st
  if !x.2.i2cd.complete && decide (0 < x.2.i2cd.rxRem) then do
    let t ← storeSlaveByte x.1 x.2
    let q := { p with st := t }
    .ok (if t.i2cd.rxRem = 0 then q.exitIfNone .success else q)
  else .ok { p with st := x.2 }

/-- `onSlaveTX()` (R432). -/
def onSlaveTx (p : Pass) : Except Stop Pass :=
  if 0 < p.st.i2cd.txRem then do
    let t ← slaveTxByte p.st
    .ok { p with st := t }
  else
    .ok (Pass.exitIfNone
      { p with st := { p.st with sl := { p.st.sl with ie := { p.st.sl.ie with txreq := false } } } } .success)

/-- `dmaNoteSlaveProgress()` (44_i2c_dma.md R466). -/
def dmaNoteSlaveProgress (p : Pass) : Pass :=
  if p.noted then p
  else
    let c := p.st.i2cd.curCh
    { p with st := dmaStop c (noteFilled c (dmaSyncRem c p.st)), noted := true }

/-- `if i2cd.engine = DMA and not i2cd.complete: dmaNoteSlaveProgress()` (R433, R434, R435). -/
def noteIfDma (p : Pass) : Pass :=
  if p.st.i2cd.engine == .dma && !p.st.i2cd.complete then dmaNoteSlaveProgress p else p

/-- The clock-stretch hold that a repeat start asserts when it is armed (R433). -/
def stretchHold (s : State) : State :=
  if s.i2cd.clockStretch then
    { s with sl := { s.sl with clockHold := true }, i2cd := { s.i2cd with clockStretch := false } }
  else s

/-- `onSlaveREPSTART()` (R433). -/
def onSlaveRepstart (p : Pass) : Pass :=
  let q := noteIfDma { p with st := stretchHold p.st }
  { q with st := { q.st with i2cd := { q.st.i2cd with txRem := 0, rxRem := 0 } }, exit := some .slaveRepeatStart }

/-- `onSlaveSTOP()` (R434). -/
def onSlaveStop (p : Pass) : Pass := (noteIfDma p).exitIfNone .slaveReceivedStop

/-- `onSlaveGCALL()` (R436). -/
def onSlaveGcall (p : Pass) : Pass :=
  Pass.exitIfNone
    { p with st := { p.st with i2cd := { p.st.i2cd with gcPending := true, gcCmd := p.st.sl.gcId } } }
    .slaveGeneralCall

/-- `slaveExit(r)` (R435). -/
def slaveExit (r : I2CResult) (p : Pass) : State :=
  let q :=
    { p with
      st := { p.st with sl := { p.st.sl with ie := { p.st.sl.ie with rxreq := false, txreq := false } } } }
  let t :=
    if q.st.i2cd.engine == .dma && !q.st.i2cd.complete then
      let u := (dmaNoteSlaveProgress q).st
      { u with sl := { u.sl with dmaTx := false, dmaRx := false } }
    else q.st
  signalCompletion r t

/-- The repeat-start part of a pass (R430). -/
def passRepstart (p : Pass) : Pass :=
  if p.st.sl.repstart then
    onSlaveRepstart { p with st := { p.st with sl := { p.st.sl with repstart := false } } }
  else p

/-- The stop part of a pass (R430). -/
def passStop (p : Pass) : Pass :=
  if p.st.sl.stop then onSlaveStop { p with st := { p.st with sl := { p.st.sl with stop := false } } } else p

/-- The general-call part of a pass (R430). -/
def passGcall (p : Pass) : Pass :=
  if p.st.sl.gcall then onSlaveGcall { p with st := { p.st with sl := { p.st.sl with gcall := false } } } else p

/-- The end of a pass: its exit, if it has one (R430). -/
def passExit (p : Pass) : State :=
  match p.exit with
  | some r => slaveExit r p
  | none => p.st

/-- The body of `I2CS_ISR` (R430). -/
def slaveService (s : State) : Run := do
  let p0 : Pass := { st := s, exit := none, noted := false }
  let p1 ← if p0.st.sl.ie.rxreq && rxreqS p0.st then onSlaveRx p0 else .ok p0
  let p2 ← if p1.st.sl.ie.txreq && txreqS p1.st then onSlaveTx p1 else .ok p1
  .ok (passExit (passGcall (passStop (passRepstart p2))))

/-- `I2CS_ISR` (R430). -/
def execI2csIsr (s : State) : Result := handlerStep .i2csIsr .i2cs slaveReq slaveService s

end Sys2Proof.Machine
end

