-- ==== Sys2Proof/Machine/Dispatch.lean ====
section
/-! DEFINITION. The meaning of each instruction: one arm per constructor of Instr. -/

namespace Sys2Proof.Machine

/-- One step of the agent that the instruction names, at state `s`. -/
def exec (i : Instr) (s : State) : Host.Outcome State Fault Refusal :=
  match i with
  | .rtcInit id => Sys2Proof.Machine.execRtcInit id s
  | .rtcUnInit h => Sys2Proof.Machine.execRtcUnInit h s
  | .rtcClearFailSafe => Sys2Proof.Machine.execRtcClearFailSafe s
  | .rtcEnableDevice h b => Sys2Proof.Machine.execRtcEnableDevice h b s
  | .rtcEnableAlarm h b => Sys2Proof.Machine.execRtcEnableAlarm h b s
  | .rtcEnableTrim h b => Sys2Proof.Machine.execRtcEnableTrim h b s
  | .rtcEnableLcdUpdate h b => Sys2Proof.Machine.execRtcEnableLcdUpdate h b s
  | .rtcEnableInterrupts h mask b => Sys2Proof.Machine.execRtcEnableInterrupts h mask b s
  | .rtcEnableSafeWrites h b => Sys2Proof.Machine.execRtcEnableSafeWrites h b s
  | .rtcGetCount h => Sys2Proof.Machine.execRtcGetCount h s
  | .rtcSetCount h v => Sys2Proof.Machine.execRtcSetCount h v s
  | .rtcGetAlarm h => Sys2Proof.Machine.execRtcGetAlarm h s
  | .rtcSetAlarm h v => Sys2Proof.Machine.execRtcSetAlarm h v s
  | .rtcGetTrim h => Sys2Proof.Machine.execRtcGetTrim h s
  | .rtcSetTrim h v => Sys2Proof.Machine.execRtcSetTrim h v s
  | .rtcGetInterruptStatus h => Sys2Proof.Machine.execRtcGetInterruptStatus h s
  | .rtcClearInterruptStatus h mask => Sys2Proof.Machine.execRtcClearInterruptStatus h mask s
  | .rtcGetWritePendStatus h => Sys2Proof.Machine.execRtcGetWritePendStatus h s
  | .rtcGetWriteSyncStatus h => Sys2Proof.Machine.execRtcGetWriteSyncStatus h s
  | .rtcGetWriteErrorSource h => Sys2Proof.Machine.execRtcGetWriteErrorSource h s
  | .rtcSynchronizeAllWrites h => Sys2Proof.Machine.execRtcSynchronizeAllWrites h s
  | .rtcRegisterCallback h cb watch => Sys2Proof.Machine.execRtcRegisterCallback h cb watch s
  | .rtcAccept g => Sys2Proof.Machine.execRtcAccept g s
  | .rtcCommit g => Sys2Proof.Machine.execRtcCommit g s
  | .rtcSecond => Sys2Proof.Machine.execRtcSecond s
  | .rtcFailsafeLatch => Sys2Proof.Machine.execRtcFailsafeLatch s
  | .i2cMasterInit id => Sys2Proof.Machine.execI2cMasterInit id s
  | .i2cSlaveInit id => Sys2Proof.Machine.execI2cSlaveInit id s
  | .i2cUnInit h => Sys2Proof.Machine.execI2cUnInit h s
  | .i2cSetBlockingMode h b => Sys2Proof.Machine.execI2cSetBlockingMode h b s
  | .i2cSetDmaMode h b => Sys2Proof.Machine.execI2cSetDmaMode h b s
  | .i2cSetSlaveAddress h v => Sys2Proof.Machine.execI2cSetSlaveAddress h v s
  | .i2cSetTenBitAddressing h b => Sys2Proof.Machine.execI2cSetTenBitAddressing h b s
  | .i2cSetClockStretch h b => Sys2Proof.Machine.execI2cSetClockStretch h b s
  | .i2cMasterTransmit h sid daddr daw buf size rs => Sys2Proof.Machine.execI2cMasterTransmit h sid daddr daw buf size rs s
  | .i2cMasterReceive h sid daddr daw buf size rs => Sys2Proof.Machine.execI2cMasterReceive h sid daddr daw buf size rs s
  | .i2cSlaveTransmit h buf size => Sys2Proof.Machine.execI2cSlaveTransmit h buf size s
  | .i2cSlaveReceive h buf size => Sys2Proof.Machine.execI2cSlaveReceive h buf size s
  | .i2cGetGeneralCall h => Sys2Proof.Machine.execI2cGetGeneralCall h s
  | .i2cGetStatus h => Sys2Proof.Machine.execI2cGetStatus h s
  | .i2cRegisterCallback h cb => Sys2Proof.Machine.execI2cRegisterCallback h cb s
  | .mAddrAck => Sys2Proof.Machine.execMAddrAck s
  | .mAddrNack => Sys2Proof.Machine.execMAddrNack s
  | .mTxByteAck => Sys2Proof.Machine.execMTxByteAck s
  | .mTxByteNack => Sys2Proof.Machine.execMTxByteNack s
  | .mTxEnd => Sys2Proof.Machine.execMTxEnd s
  | .mRxByte b => Sys2Proof.Machine.execMRxByte b s
  | .mRxEnd => Sys2Proof.Machine.execMRxEnd s
  | .mAlost => Sys2Proof.Machine.execMAlost s
  | .sAddrMatch d => Sys2Proof.Machine.execSAddrMatch d s
  | .sRxByte b => Sys2Proof.Machine.execSRxByte b s
  | .sTxByte => Sys2Proof.Machine.execSTxByte s
  | .sTxUnderflow => Sys2Proof.Machine.execSTxUnderflow s
  | .sRepstart d => Sys2Proof.Machine.execSRepstart d s
  | .sStop => Sys2Proof.Machine.execSStop s
  | .sGcall b => Sys2Proof.Machine.execSGcall b s
  | .rtcIsr => Sys2Proof.Machine.execRtcIsr s
  | .i2cmIsr => Sys2Proof.Machine.execI2cmIsr s
  | .i2csIsr => Sys2Proof.Machine.execI2csIsr s
  | .dmaIsr c => Sys2Proof.Machine.execDmaIsr c s
  | .dmaXfer c => Sys2Proof.Machine.execDmaXfer c s

end Sys2Proof.Machine
end

