-- ==== Sys2Proof/WellFormed.lean ====
section
/-! DEFINITION. What is well formed: an operation word (30_encoding.md R140-R145), a program and a schedule (R145, R147),
a buffer region (20_memory.md R120), the parameters (00_scope.md R9). A term of Instr is well formed by its types: the
operand bytes with illegal values (R142) are Bool, Group, Chan and Dir. -/

namespace Sys2Proof

/-- The operand formats of 30_encoding.md R141. FB is split by what its byte may hold (R142, R149): `fb` a data or
command byte, `fd` a direction. -/
inductive Format where
  | f0 | fid | fh | fhb | fhv16 | fhv32 | fhmb | fhcw | fhc | fmx | fsx | fg | fb | fd | fc
deriving DecidableEq, Repr

/-- The length in bytes of an operation word of a format, its opcode byte included (30_encoding.md R141). -/
def formatLength : Format → Nat
  | .f0 => 1
  | .fid => 2
  | .fh => 2
  | .fhb => 3
  | .fhv16 => 4
  | .fhv32 => 6
  | .fhmb => 5
  | .fhcw => 5
  | .fhc => 3
  | .fmx => 16
  | .fsx => 8
  | .fg => 2
  | .fb => 2
  | .fd => 2
  | .fc => 2

/-- The format of an assigned opcode, and none for a reserved one (30_encoding.md R149). -/
def formatOf (op : Nat) : Option Format :=
  if op = 0x02 then some .f0
  else if op = 0x00 ∨ op = 0x40 ∨ op = 0x41 then some .fid
  else if op ∈ [0x03, 0x04, 0x05, 0x06, 0x08, 0x43, 0x44, 0x46, 0x47] then some .fhb
  else if op = 0x07 then some .fhmb
  else if op = 0x0A ∨ op = 0x0C then some .fhv32
  else if op = 0x0E ∨ op = 0x10 ∨ op = 0x45 then some .fhv16
  else if op = 0x15 then some .fhcw
  else if op = 0x4E then some .fhc
  else if op = 0x48 ∨ op = 0x49 then some .fmx
  else if op = 0x4A ∨ op = 0x4B then some .fsx
  else if op ≤ 0x14 ∨ op = 0x42 ∨ op = 0x4C ∨ op = 0x4D then some .fh
  else if op = 0x20 ∨ op = 0x21 then some .fg
  else if op = 0x65 ∨ op = 0x81 ∨ op = 0x86 then some .fb
  else if op = 0x80 ∨ op = 0x84 then some .fd
  else if op = 0xA3 ∨ op = 0xC0 then some .fc
  else if op = 0x22 ∨ op = 0x23 then some .f0
  else if 0x60 ≤ op ∧ op ≤ 0x67 then some .f0
  else if 0x82 ≤ op ∧ op ≤ 0x85 then some .f0
  else if 0xA0 ≤ op ∧ op ≤ 0xA2 then some .f0
  else none

/-- The byte of a format whose values are limited, and the least illegal value (30_encoding.md R142, R149). -/
def limitedByte : Format → Option (Nat × Nat)
  | .fhb => some (2, 2)
  | .fhmb => some (4, 2)
  | .fmx => some (15, 2)
  | .fg => some (1, 7)
  | .fd => some (1, 2)
  | .fc => some (1, 3)
  | _ => none

/-- A word is legal when its opcode is assigned, it holds all the bytes of its format, and its limited byte holds a value
of its type (30_encoding.md R142, R145). Bytes past the format's length are not read (log 10). -/
def wordLegal (w : List Byte) : Bool :=
  match w with
  | [] => false
  | op :: _ =>
    match formatOf op.toNat with
    | none => false
    | some f =>
      decide (formatLength f ≤ w.length) &&
        match limitedByte f with
        | none => true
        | some (at_, bound) => decide ((w.getD at_ 0).toNat < bound)

/-- The class of an opcode, its bits 7:5 (30_encoding.md R140). -/
def opcodeClass (op : Byte) : Nat := op.toNat / 32

/-- Whether a class is issued by the main context (30_encoding.md R140): 000 or 010. -/
def isOperationClass (c : Nat) : Bool := c == 0 || c == 2

/-- Whether a word's opcode is of a class that the main context issues. -/
def isOperationWord (w : List Byte) : Bool :=
  match w with
  | [] => false
  | op :: _ => isOperationClass (opcodeClass op)

/-- A program is well formed when every word is legal and is an operation (30_encoding.md R145, R147). -/
def programWellFormed (p : List (List Byte)) : Bool := p.all fun w => wordLegal w && isOperationWord w

/-- A schedule's event line is well formed when its word is legal and is no operation (30_encoding.md R147). -/
def eventLineWellFormed (w : List Byte) : Bool := wordLegal w && !isOperationWord w

/-- A buffer region `[base, base + size)` lies inside the u32 address space (20_memory.md R120; log 20). -/
def regionWellFormed (base : Addr) (size : Nat) : Bool := decide (base.toNat + size ≤ 2 ^ 32)

/-- The three trim fields lie in bits 15:0 and do not overlap (30_encoding.md R152). -/
def trimLayoutWellFormed (l : TrimLayout) : Bool :=
  let bits := [l.magLo, l.magLo + 1, l.magLo + 2, l.addBit, l.ivlLo, l.ivlLo + 1]
  decide bits.Nodup && bits.all fun i => decide (i < 16)

/-- The parameters are in their ranges (00_scope.md R9). -/
def paramsWellFormed (p : Params) : Bool :=
  decide (1 ≤ p.fifoDepth) && decide (1 ≤ p.dmaMax) && trimLayoutWellFormed p.trimLayout

end Sys2Proof
end

