-- ==== Sys2Proof/Machine/Schedule.lean ====
section
/-! DEFINITION. Which agent steps next, and how its operation word is fetched and read (60_exceptions.md R544-R546,
30_encoding.md R145, R147), and placing a word where the next step fetches it. -/

namespace Sys2Proof.Machine

/-- The operation word at `main.pc` (10_state.md R31). -/
def mainWord (s : State) : List Byte := s.main.prog.getD s.main.pc []

/-- A program's word: its operation's main-context step, or the decoder's refusal (30_encoding.md R145). DESIGN CHOICE
(log 25): a word with an event opcode and an illegal operand byte, such as 20 07, is refused as IllegalOperation, because
the word is decoded before its class is looked at. -/
def runOperation (w : List Byte) (s : State) : Result :=
  match decode w with
  | .legal i => if isOperation i then exec i s else .next (s.refuse .eventInProgram)
  | .illegal _ => .next (s.refuse .illegalOperation)

/-- A schedule line's word: its event or handler step, or a refusal (30_encoding.md R145, R147; log 12). As in a program,
an illegal word is refused as IllegalOperation whatever its class (log 25). -/
def runEvent (w : List Byte) (s : State) : Result :=
  match decode w with
  | .legal i => if isOperation i then .next (s.refuse .operationInSchedule) else exec i s
  | .illegal _ => .next (s.refuse .illegalOperation)

/-- One step of the main context if it has one; otherwise nothing changes (60_exceptions.md R546; log 5). -/
def mainTurn (s : State) : Result := if mainReady s then runOperation (mainWord s) s else .next s

/-- One line of the schedule, on the state that no longer holds it (log 4). -/
def runTurn (t : Turn) (s : State) : Result :=
  match t with
  | .main => mainTurn s
  | .event w => runEvent w s
  | .coreReset => .next (coreReset s)
  | .por => .next (porReset s)

/-- The state with the given schedule lines left. -/
def State.withSched (s : State) (l : List Turn) : State := { s with env := { s.env with sched := l } }

/-- The next step of an unmarked state: the main context while it runs eagerly and has a step (60_exceptions.md R545),
else the next schedule line, else the main context (log 4). -/
def runNext (s : State) : Result :=
  if s.env.eager && mainReady s then runOperation (mainWord s) s
  else
    match s.env.sched with
    | [] => mainTurn s
    | t :: rest => runTurn t (s.withSched rest)

/-- A marked state stops: the model's fault or refusal is the machine's (00_scope.md R13, 10_state.md R88; log 7). -/
def stopOrRun (s : State) : Result :=
  match s.fault, s.refused with
  | some f, _ => .fault f
  | none, some r => .refused r
  | none, none => runNext s

/-- The program with `w` as its word number `pc`. -/
def placeInProgram (prog : List (List Byte)) (pc : Nat) (w : List Byte) : List (List Byte) :=
  (prog ++ List.replicate (pc + 1 - prog.length) []).set pc w

/-- The state with a word where the next step takes it: an operation at `main.pc`, with the main context at its start
and running; any other word as the next schedule line, with the main context not running first (log 6). -/
def placeWord (w : List Byte) (s : State) : State :=
  let t := { s with refused := none, fault := none }
  if isOperationWord w then
    { t with
      hnd := none
      main := { t.main with k := .start, prog := placeInProgram t.main.prog t.main.pc w }
      env := { t.env with eager := true } }
  else { t with env := { t.env with eager := false, sched := .event w :: t.env.sched } }

end Sys2Proof.Machine
end

