-- ==== Sys2Proof/Machine/Step.lean ====
section
/-! DEFINITION. The step function of the machine, and placing an instruction where the next step takes it. -/

namespace Sys2Proof.Machine

/-- One step of the machine. -/
def step (s : State) : Host.Outcome State Fault Refusal := stopOrRun s

/-- `s` with the instruction whose bits are `w` stored where the next step takes it (log 6). -/
def State.withFetchWord (s : State) (nbits w : Nat) : State := placeWord (tableWordBytes nbits w) s

end Sys2Proof.Machine
end

