-- ==== Sys2Proof/Safety.lean ====
section
/-! DEFINITION. What counts as a safe run: the conditions that claims name, and the invariants that every step keeps. -/

namespace Sys2Proof.Machine

/-- Neither of the model's marks is set (10_state.md R88). -/
abbrev Unmarked (s : State) : Prop := s.fault = none ∧ s.refused = none

/-- Data memory is in its canonical form (20_memory.md R120). -/
abbrev MemoryCanonical (s : State) : Prop := Memory.wf s.mem

/-- Bits outside the defined fields read 0 (10_state.md R34, R35, R38). -/
abbrev ReservedBitsZero (s : State) : Prop :=
  s.rtc.control &&& ~~~controlMask = 0#16 ∧ s.rtc.status &&& ~~~statusMask = 0#16 ∧
    s.rtc.trim &&& ~~~trimMask s.cfg.trimLayout = 0#16

/-- No FIFO holds more bytes than its capacity (10_state.md R53, R61). -/
abbrev FifosWithinDepth (s : State) : Prop :=
  s.m.txf.length ≤ s.cfg.fifoDepth ∧ s.m.rxf.length ≤ s.cfg.fifoDepth ∧ s.sl.txf.length ≤ s.cfg.fifoDepth ∧
    s.sl.rxf.length ≤ s.cfg.fifoDepth

/-- The transfer engine agrees with the DMA mode, and blocking and DMA are never both on (10_state.md R67). -/
abbrev EngineMatchesMode (s : State) : Prop :=
  (s.i2cd.engine = .dma ↔ s.i2cd.dma = true) ∧ ¬(s.i2cd.blocking = true ∧ s.i2cd.dma = true)

/-- The handler invocation, if there is one, holds in the stall of RTC_ISR (10_state.md R84). -/
def holdsLegally : Option HandlerRun → Bool
  | none => true
  | some { handler := .rtcIsr, point := .stall _ } => true
  | some _ => false

/-- Between steps the main context is in no critical region, and only RTC_ISR can be holding (60_exceptions.md R542,
10_state.md R84). -/
abbrev BetweenSteps (s : State) : Prop := s.main.crit = false ∧ holdsLegally s.hnd = true

/-- `main.pc` is the number of operations that have returned (10_state.md R31, 30_encoding.md R143). -/
abbrev PcCountsResults (s : State) : Prop := s.main.pc = s.main.results.length

/-- All the invariants. -/
abbrev Safe (s : State) : Prop :=
  MemoryCanonical s ∧ ReservedBitsZero s ∧ FifosWithinDepth s ∧ EngineMatchesMode s ∧ BetweenSteps s ∧
    PcCountsResults s

end Sys2Proof.Machine
end

