-- ==== Sys2Proof/Certificates/Slice0/Obligations.lean ====
section
/-! DEFINITION. The statements for the provers, and the vocabulary they share. A next state is written as an update of
the state before, so that every field it does not name is unchanged. -/

namespace Sys2Proof.Cert

open Sys2Proof.Machine

/-! ### Where the main context stands -/

/-- The main context is at the start of an operation and may step (60_exceptions.md R544). -/
abbrev AtStart (s : State) : Prop := s.hnd = none ∧ s.main.k = .start ∧ s.main.crit = false

/-- The main context holds at point `p`, and the condition `c` that it awaits holds now. -/
abbrev Resumes (c : Await) (p : Point) (s : State) : Prop :=
  s.hnd = none ∧ s.main.k = .hold c p ∧ s.main.crit = false ∧ c.holds s = true

/-- As `AtStart` or as `Resumes`: a wait that the operation makes either ends at once or has ended. -/
abbrev Reaches (c : Await) (p : Point) (s : State) : Prop :=
  s.hnd = none ∧ s.main.crit = false ∧ (s.main.k = .start ∨ s.main.k = .hold c p) ∧ c.holds s = true

/-- The handler of line `l` may start (60_exceptions.md R530, R533, R542). -/
abbrev MayStart (l : Line) (req : Bool) (s : State) : Prop :=
  s.nvic.get l = true ∧ req = true ∧ s.main.crit = false ∧ s.hnd = none

/-! ### Gates -/

/-- The handle operand of an RTC operation that takes one (40_rtc_ops.md R231). -/
def rtcHandleOf : Instr → Option Byte
  | .rtcUnInit h => some h
  | .rtcEnableDevice h _ => some h
  | .rtcEnableAlarm h _ => some h
  | .rtcEnableTrim h _ => some h
  | .rtcEnableLcdUpdate h _ => some h
  | .rtcEnableInterrupts h _ _ => some h
  | .rtcEnableSafeWrites h _ => some h
  | .rtcGetCount h => some h
  | .rtcSetCount h _ => some h
  | .rtcGetAlarm h => some h
  | .rtcSetAlarm h _ => some h
  | .rtcGetTrim h => some h
  | .rtcSetTrim h _ => some h
  | .rtcGetInterruptStatus h => some h
  | .rtcClearInterruptStatus h _ => some h
  | .rtcGetWritePendStatus h => some h
  | .rtcGetWriteSyncStatus h => some h
  | .rtcGetWriteErrorSource h => some h
  | .rtcSynchronizeAllWrites h => some h
  | .rtcRegisterCallback h _ _ => some h
  | _ => none

/-- The two operations that pass `fsExempt = true` (40_rtc_ops.md R231). -/
def failsafeExempt : Instr → Bool
  | .rtcSetCount _ _ => true
  | .rtcClearInterruptStatus _ _ => true
  | _ => false

/-- The handle operand of an I2C operation that takes one, and the modes it may be called in (42_i2c_master.md R328). -/
def i2cHandleOf : Instr → Option (Byte × List Mode)
  | .i2cUnInit h => some (h, [.master, .slave])
  | .i2cSetBlockingMode h _ => some (h, [.master, .slave])
  | .i2cSetDmaMode h _ => some (h, [.master, .slave])
  | .i2cSetSlaveAddress h _ => some (h, [.slave])
  | .i2cSetTenBitAddressing h _ => some (h, [.master, .slave])
  | .i2cSetClockStretch h _ => some (h, [.slave])
  | .i2cMasterTransmit h _ _ _ _ _ _ => some (h, [.master])
  | .i2cMasterReceive h _ _ _ _ _ _ => some (h, [.master])
  | .i2cSlaveTransmit h _ _ => some (h, [.slave])
  | .i2cSlaveReceive h _ _ => some (h, [.slave])
  | .i2cGetGeneralCall h => some (h, [.slave])
  | .i2cGetStatus h => some (h, [.master, .slave])
  | .i2cRegisterCallback h _ => some (h, [.master, .slave])
  | _ => none

/-- The gate of an RTC operation is passed. -/
abbrev RtcOpen (s : State) : Prop := s.rtcd.initialized = true ∧ s.rtc.status.getLsbD 2 = false

/-! ### RTC -/

/-- The safe-write stall: the operation holds while one of the groups is pending (40_rtc_ops.md R230). -/
def orHold (gs : List Group) (p : Point) (s body : State) : State :=
  if s.rtcd.safeWrite = true ∧ (∃ g ∈ gs, (s.rtc.posted.get g).isSome = true) then s.holdAt (.noPend gs) p else body

/-- The control bits that an enable operation sets or clears (40_rtc_ops.md R203, R204, R205, R207). -/
def controlEnableOf : Instr → Option (U16 × Bool)
  | .rtcEnableDevice h b => if h = 0#8 then some (0x0001#16, b) else none
  | .rtcEnableAlarm h b => if h = 0#8 then some (0x0002#16, b) else none
  | .rtcEnableTrim h b => if h = 0#8 then some (0x0004#16, b) else none
  | .rtcEnableLcdUpdate h b => if h = 0#8 then some (0x0008#16, b) else none
  | _ => none

/-- `b ? (v | m) : (v & ~m)` (40_rtc_ops.md R206). -/
def updated (v m : U16) (b : Bool) : U16 := if b then v ||| m else v &&& ~~~m

/-- The RTC hardware after `v` commits to group `g` (20_memory.md R108, R109). -/
def committed (l : TrimLayout) (g : Group) (v : U16) (r : RtcHw) : RtcHw :=
  match g with
  | .control => { r with control := v &&& 0x003F#16 }
  | .status0 =>
    { r with
      status := r.status &&& ~~~(v &&& 0x0007#16)
      errSrc := if v.getLsbD 1 then 7#3 else r.errSrc }
  | .countLo => { r with count := r.count.extractLsb' 16 16 ++ v }
  | .countHi => { r with count := v ++ r.count.extractLsb' 0 16 }
  | .alarmLo => { r with alarm := r.alarm.extractLsb' 16 16 ++ v }
  | .alarmHi => { r with alarm := v ++ r.alarm.extractLsb' 0 16 }
  | .trim => { r with trim := v &&& trimMask l }

/-- The RTC hardware after a loss of its power, with the values drawn (41_rtc_hw.md R276). -/
def powerLost (l : TrimLayout) (flags : BitVec 2) (count alarm : U32) (control trim : U16) (errSrc : BitVec 3)
    (r : RtcHw) : RtcHw :=
  { oscOn := r.oscOn
    control := control &&& 0x003F#16
    status := (r.status &&& ~~~0x0003#16) ||| 0x0004#16 ||| flags.setWidth 16
    count := count, alarm := alarm
    trim := trim &&& trimMask l
    posted := noWrites, inflight := noWrites, errSrc := errSrc }

/-- The RTC hardware after a POR, with the values drawn (70_reset_and_hazards.md R581). -/
def poweredOn (l : TrimLayout) (flags : BitVec 2) (count alarm : U32) (control trim : U16) (errSrc : BitVec 3) : RtcHw :=
  { oscOn := false
    control := control &&& 0x003F#16
    status := 0x0004#16 ||| flags.setWidth 16
    count := count, alarm := alarm
    trim := trim &&& trimMask l
    posted := noWrites, inflight := noWrites, errSrc := errSrc }

/-! ### Events -/

/-- The "Enabled when" of each event and handler, as its rule gives it; for RTC_FAILSAFE_LATCH with the oscillator off,
where 41_rtc_hw.md R276 and 10_state.md R33 disagree, as the parameter `latchNeedsOsc` says (log 26). An operation is no
event. -/
def enabledWhen (i : Instr) (s : State) : Bool :=
  match i with
  | .rtcAccept g => s.rtc.oscOn && (s.rtc.posted.get g).isSome && (s.rtc.inflight.get g).isNone
  | .rtcCommit g => s.rtc.oscOn && (s.rtc.inflight.get g).isSome
  | .rtcSecond => s.rtc.oscOn && s.rtc.control.getLsbD 0
  | .rtcFailsafeLatch => s.cfg.rtcDomainIndep && (s.rtc.oscOn || !s.cfg.latchNeedsOsc)
  | .mAddrAck => s.m.busy && s.m.phase == .addrWait
  | .mAddrNack => s.m.busy && s.m.phase == .addrWait
  | .mTxByteAck => s.m.busy && s.m.phase == .data && s.m.dir == .W && s.m.txf != []
  | .mTxByteNack => s.m.busy && s.m.phase == .data && s.m.dir == .W && s.m.txf != []
  | .mTxEnd => s.m.busy && s.m.phase == .data && s.m.dir == .W && s.m.txf == []
  | .mRxByte _ =>
    s.m.busy && s.m.phase == .data && s.m.dir == .R && decide (s.m.nrx < s.m.rxTarget) &&
      decide (s.m.rxf.length < s.cfg.fifoDepth)
  | .mRxEnd => s.m.busy && s.m.phase == .data && s.m.dir == .R && s.m.nrx == s.m.rxTarget
  | .mAlost => s.m.busy
  | .sAddrMatch _ => s.sl.en && !s.sl.busy
  | .sGcall _ => s.sl.en && !s.sl.busy
  | .sRxByte _ =>
    s.sl.busy && s.sl.dir == .W && !s.sl.clockHold && !s.sl.repstart && decide (s.sl.rxf.length < s.cfg.fifoDepth)
  | .sTxByte => s.sl.busy && s.sl.dir == .R && !s.sl.clockHold && !s.sl.repstart && s.sl.txf != []
  | .sTxUnderflow => s.sl.busy && s.sl.dir == .R && !s.sl.clockHold && !s.sl.repstart && s.sl.txf == []
  | .sRepstart _ => s.sl.busy && !s.sl.clockHold && !s.sl.repstart
  | .sStop => s.sl.busy && !s.sl.clockHold && !s.sl.repstart
  | .rtcIsr =>
    match s.hnd with
    | some { handler := .rtcIsr, point := .stall _ } => (s.rtc.posted.get .status0).isNone
    | some _ => false
    | none => s.nvic.rtc && rtcReq s && !s.main.crit
  | .i2cmIsr => s.nvic.i2cm && masterReq s && !s.main.crit && s.hnd.isNone
  | .i2csIsr => s.nvic.i2cs && slaveReq s && !s.main.crit && s.hnd.isNone
  | .dmaIsr c => s.nvic.get (lineOfChan c) && (s.dma.get c).done && !s.main.crit && s.hnd.isNone
  | .dmaXfer c =>
    (s.dma.get c).enabled && ((s.dma.get c).slot (s.dma.get c).cur).mode == .pingpong && dmaReq s c
  | _ => true

/-! ### I2C master -/

/-- A state after the checks of a master transfer (42_i2c_master.md R328, R336). -/
abbrev MasterOpen (sid : U16) (daw : Byte) (size : U16) (s : State) : Prop :=
  s.i2cd.mode = .master ∧ daw.toNat ≤ 4 ∧ addressTooLarge s.i2cd.tenBit sid = false ∧ size ≠ 0#16

/-- The driver fields of every transaction's setup (42_i2c_master.md R332). -/
def setupDriver (d : I2cDriver) : I2cDriver :=
  { d with complete := false, result := .success, sem := false, firstFifo := true }

/-- The master fields of every transaction's setup (42_i2c_master.md R332). -/
def setupMaster (m : MasterHw) : MasterHw :=
  { m with
    tcomp := false, alost := false, nackA := false, nackD := false, en := true
    ie := { m.ie with tcomp := true, alost := true, nackA := true, nackD := true } }

/-- The master fields after a launch (42_i2c_master.md R329, R340). -/
def launched (tenBit : Bool) (sid : U16) (d : Dir) (m : MasterHw) : MasterHw :=
  { m with
    adr1 := if tenBit then address10First sid d else address7 sid d
    adr2 := if tenBit then address10Second sid else m.adr2
    busy := true, dir := d, nrx := 0, busHeld := false, phase := .addrWait }

/-- START, or SR when the bus is held (42_i2c_master.md R340). -/
def startOf (m : MasterHw) : BusEvent := if m.busHeld then .sr else .start

/-- After the launch of a transfer: a blocking call waits, another returns SUCCESS (42_i2c_master.md R330, R331). -/
def launchedCall (op : Byte) (s : State) : State :=
  if s.i2cd.blocking = true then s.holdAt .signalled .done else ret op (.i2c .success) {} s

/-- After the `wait()` of a blocking call (60_exceptions.md R547). -/
def waited (s : State) : State := { s with i2cd := { s.i2cd with sem := false, waitArmed := false } }

/-- The driver and engine of a master transmit, set up and with `txf` in its FIFO (42_i2c_master.md R330). -/
def transmitted (sid : U16) (daddr : U32) (daw : Nat) (ptr : Addr) (rem : Nat) (rs : Bool) (txf : List Byte)
    (s : State) : State :=
  { s with
    nvic := { s.nvic with i2cm := true }
    i2cd :=
      { setupDriver s.i2cd with
        waitArmed := s.i2cd.blocking, rs := rs, slaveId := sid.setWidth 10, dataAddr := daddr, daw := daw
        txPtr := ptr, txRem := rem, rxRem := 0 }
    m := { setupMaster s.m with txf := txf } }

/-- The driver and engine of a master receive, set up (42_i2c_master.md R331, R335). -/
def receiving (sid : U16) (buf : Addr) (size : U16) (rs : Bool) (s : State) : State :=
  { s with
    nvic := { s.nvic with i2cm := true }
    i2cd :=
      { setupDriver s.i2cd with
        waitArmed := s.i2cd.blocking, rs := rs, slaveId := sid.setWidth 10, daw := 0, rxPtr := buf
        rxRem := size.toNat, txRem := 0 }
    m :=
      { setupMaster s.m with
        rxf := []
        rxcnt := if size.toNat ≤ 256 then size else 0#16
        extend := decide (256 < size.toNat)
        rxTarget := size.toNat } }

/-- The launch of a set-up transfer (42_i2c_master.md R329, R340). -/
def launchOn (sid : U16) (d : Dir) (s : State) : State :=
  { s with m := launched s.i2cd.tenBit sid d s.m, trace := s.trace ++ [startOf s.m] }

/-- The end of a transfer by the engine, with no repeated start queued (42_i2c_master.md R368). -/
def ended (held : Bool) (m : MasterHw) : MasterHw :=
  { m with busHeld := held, busy := false, phase := .idle, rsQueued := false }

/-- The address bytes on the bus: `adr2` follows when `adr1` has the 10-bit prefix (42_i2c_master.md R360). -/
def addressShown (m : MasterHw) : List BusEvent :=
  if m.adr1.toNat / 8 = 0b11110 then [.addr m.adr1, .addr m.adr2] else [.addr m.adr1]

/-- The repeat-start check of a FIFO service (42_i2c_master.md R371). -/
def repeatChecked (s : State) : State :=
  let u := { s with i2cd := { s.i2cd with firstFifo := false, rs := s.i2cd.rs && !s.i2cd.firstFifo } }
  if s.i2cd.firstFifo = true ∧ s.i2cd.rs = true then writeAdr1 s.m.adr1 u else u

/-- The TCOMP service, when TCOMP is latched (42_i2c_master.md R370, R372). -/
def tcompServed (s : State) : State :=
  if s.m.tcomp = true ∧ ¬(s.m.rxf ≠ [] ∧ (s.i2cd.engine = .dma ∨ 0 < s.i2cd.rxRem)) then
    signalCompletion .success { s with m := { s.m with tcomp := false } }
  else s

/-! ### I2C slave -/

/-- A state after the checks of a slave transfer (43_i2c_slave.md R410, R412). -/
abbrev SlaveOpen (size : U16) (s : State) : Prop :=
  s.i2cd.mode = .slave ∧ s.i2cd.gcPending = false ∧
    ¬(s.i2cd.tenBit = false ∧ 0x80 ≤ s.i2cd.slaveId.toNat) ∧ size ≠ 0#16

/-- A slave call set up (43_i2c_slave.md R412), its clock hold released and the slave enabled (R410, R411). -/
def slaveReady (size : U16) (s : State) : State :=
  { s with
    nvic := { s.nvic with i2cs := true }
    i2cd :=
      { s.i2cd with
        complete := false, result := .success, sem := false, waitArmed := s.i2cd.blocking
        xferLen := size.toNat, rxFilled := 0 }
    sl :=
      { s.sl with
        addr := s.i2cd.slaveId, tenBit := s.i2cd.tenBit, stop := false, clockHold := false, en := true
        ie := { s.sl.ie with repstart := true, stop := true, gcall := true } } }

/-- The `n` bytes of a buffer, in increasing address order (20_memory.md R121). -/
def bufferBytes (s : State) (buf : Addr) (n : Nat) : List Byte :=
  (List.range n).map fun i => Memory.read s.mem (buf + BitVec.ofNat 32 i).toNat

/-- The address bytes of this slave (43_i2c_slave.md R427). -/
def slaveAddressShown (d : Dir) (sl : SlaveHw) : List BusEvent :=
  if sl.tenBit then [.addr (address10First sl.addr d), .addr (address10Second sl.addr)]
  else [.addr (address7 sl.addr d)]

/-- A received byte is due to be taken from the RX FIFO in a pass of the slave handler (43_i2c_slave.md R430). -/
def rxDue (s : State) : Bool := s.sl.ie.rxreq && s.sl.rxf != []

/-- The TX FIFO is due to be served in a pass (43_i2c_slave.md R430). -/
def txDue (s : State) : Bool := s.sl.ie.txreq && txreqS s

/-- The byte taken is stored, not discarded (43_i2c_slave.md R431). -/
def storesByte (s : State) : Bool := rxDue s && !s.i2cd.complete && decide (0 < s.i2cd.rxRem)

/-- A byte of the buffer is sent (43_i2c_slave.md R432). -/
def sendsByte (s : State) : Bool := txDue s && decide (0 < s.i2cd.txRem)

/-- The memory accesses of a pass lie in declared regions (20_memory.md R120). -/
abbrev SlaveAccessDeclared (s : State) : Prop :=
  (storesByte s = true → declared s s.i2cd.rxPtr = true) ∧ (sendsByte s = true → declared s s.i2cd.txPtr = true)

/-- A pass exhausts the count of the call: it stores the last byte, or finds none to send (43_i2c_slave.md R431, R432). -/
def countExhausted (s : State) : Bool := (storesByte s && s.i2cd.rxRem == 1) || (txDue s && s.i2cd.txRem == 0)

/-- The state after the FIFO services of a pass, the receive service first (43_i2c_slave.md R431, R432). -/
def fifosServed (s : State) : State :=
  let mem := if storesByte s then Memory.write s.mem s.i2cd.rxPtr.toNat (s.sl.rxf.headD 0#8) else s.mem
  { s with
    mem := mem
    sl :=
      { s.sl with
        rxf := if rxDue s then s.sl.rxf.tail else s.sl.rxf
        txf := if sendsByte s then s.sl.txf ++ [Memory.read mem s.i2cd.txPtr.toNat] else s.sl.txf
        ie := { s.sl.ie with txreq := s.sl.ie.txreq && !(txDue s && s.i2cd.txRem == 0) } }
    i2cd :=
      { s.i2cd with
        rxPtr := if storesByte s then s.i2cd.rxPtr + 1#32 else s.i2cd.rxPtr
        rxRem := if storesByte s then s.i2cd.rxRem - 1 else s.i2cd.rxRem
        rxFilled := if storesByte s then s.i2cd.rxFilled + 1 else s.i2cd.rxFilled
        txPtr := if sendsByte s then s.i2cd.txPtr + 1#32 else s.i2cd.txPtr
        txRem := if sendsByte s then s.i2cd.txRem - 1 else s.i2cd.txRem } }

/-- In DMA mode with the call active, the counts brought up to date from the current channel, the channel stopped and its
requests turned off (43_i2c_slave.md R435, 44_i2c_dma.md R466, R467). -/
def progressNoted (s : State) : State :=
  let c := s.i2cd.curCh
  if s.i2cd.engine = .dma ∧ s.i2cd.complete = false then
    { s with
      sl := { s.sl with dmaTx := false, dmaRx := false }
      i2cd :=
        { s.i2cd with
          txRem := if toPeriph s c then dmaRemaining s c else s.i2cd.txRem
          rxRem := if toPeriph s c then s.i2cd.rxRem else dmaRemaining s c
          rxFilled := if c = .srx then s.i2cd.xferLen - dmaRemaining s c else s.i2cd.rxFilled
          unsched := 0 }
      dma :=
        s.dma.set c
          { s.dma.get c with
            pri := Desc.inactive (toPeriph s c), alt := Desc.inactive (toPeriph s c), enabled := false
            done := false } }
  else s

/-- No repeat start, stop or general call is latched. -/
abbrev NoSlaveLatch (s : State) : Prop := s.sl.repstart = false ∧ s.sl.stop = false ∧ s.sl.gcall = false

/-- The exit of a pass that found latched bits (43_i2c_slave.md R430, R433, R434, R436). -/
def latchExit (s : State) : I2CResult :=
  if s.sl.repstart then .slaveRepeatStart else if s.sl.stop then .slaveReceivedStop else .slaveGeneralCall

/-- The slave hardware after a pass that serviced its latched bits and exited (43_i2c_slave.md R430, R433, R435). -/
def latchesServed (s : State) : SlaveHw :=
  { s.sl with
    repstart := false, stop := false, gcall := false
    clockHold := s.sl.clockHold || (s.sl.repstart && s.i2cd.clockStretch)
    ie := { s.sl.ie with rxreq := false, txreq := false } }

/-- The driver after a pass that serviced the latched bits, apart from the counts (43_i2c_slave.md R433, R436). -/
def latchesNoted (s : State) : I2cDriver :=
  { s.i2cd with
    clockStretch := s.i2cd.clockStretch && !s.sl.repstart
    gcPending := s.i2cd.gcPending || s.sl.gcall
    gcCmd := if s.sl.gcall then s.sl.gcId else s.i2cd.gcCmd }

/-- A slave call ended with an exit, its FIFO requests turned off (43_i2c_slave.md R435). -/
def slaveEnded (r : I2CResult) (s : State) : State :=
  signalCompletion r { s with sl := { s.sl with ie := { s.sl.ie with rxreq := false, txreq := false } } }

/-! ### DMA -/

/-- A channel after one element has moved (44_i2c_dma.md R470). -/
def elementMoved (ch : Channel) : Channel :=
  let d := ch.slot ch.cur
  if d.count ≤ 1 then
    { ch.setSlot ch.cur { d with ptr := d.ptr + 1#32, count := 0, mode := .invalid } with
      done := true
      cur := ch.cur.other
      enabled := ch.enabled && (ch.slot ch.cur.other).mode == .pingpong }
  else ch.setSlot ch.cur { d with ptr := d.ptr + 1#32, count := d.count - 1 }

/-- The descriptor that channel `c` works on. -/
def curDesc (s : State) (c : Chan) : Desc := (s.dma.get c).slot (s.dma.get c).cur

/-- The channels of an instance at their reset values, and their lines' enables set to `b` (44_i2c_dma.md R463, R464). -/
def channelsSet (b : Bool) (s : State) : State :=
  if s.i2cd.mode = .master then
    { s with
      dma := { s.dma with m := Channel.reset }
      nvic := { s.nvic with dmaM := b }
      i2cd := { s.i2cd with dmaOwned := b } }
  else
    { s with
      dma := { s.dma with stx := Channel.reset, srx := Channel.reset }
      nvic := { s.nvic with dmaStx := b, dmaSrx := b }
      i2cd := { s.i2cd with dmaOwned := b } }

/-- `k` calls of the scheduler (44_i2c_dma.md R461). -/
def scheduled : Nat → State → State
  | 0, s => s
  | k + 1, s => scheduled k (scheduleNext s)

/-! ### Instruction classes (30_encoding.md R140, 10_state.md R89) -/

/-- The operations, events and handler of the RTC group. -/
def rtcGroup (i : Instr) : Bool :=
  let c := (opcodeOf i).toNat / 32
  c == 0 || c == 1 || opcodeOf i == 0xA0#8

/-- The handler invocations: RTC_ISR, I2CM_ISR, I2CS_ISR and DMA_ISR. -/
def isHandler (i : Instr) : Bool := (opcodeOf i).toNat / 32 == 5

/-- The instructions whose rules write an interrupt-line enable (60_exceptions.md R531). -/
def writesLines (i : Instr) : Bool :=
  [0x00#8, 0x01#8, 0x07#8, 0x40#8, 0x41#8, 0x42#8, 0x44#8, 0x48#8, 0x49#8, 0x4A#8, 0x4B#8].contains (opcodeOf i)

end Sys2Proof.Cert

section Statements

open Sys2Proof Sys2Proof.Machine Sys2Proof.Cert

/-! ### Encoding -/

/-- 30_encoding.md R141, R142, R149: the word of every instruction decodes to the instruction. That it does so whatever
bytes follow it is the model's choice (log 10, DESIGN CHOICE): R141 does not say what a longer word is. -/
def Obligations.EncodedWordDecodes : Prop :=
  ∀ (i : Instr) (rest : List Byte), decode (encode i ++ rest) = .legal i

/-- 30_encoding.md R141, R142, R149: a word that decodes begins with the word of its instruction, so no byte of an
encoding is a don't-care. That a word shorter than its format does not decode, and that bytes may follow the encoding, is
the model's choice (log 10, DESIGN CHOICE). -/
def Obligations.DecodedWordIsEncoding : Prop :=
  ∀ (w : List Byte) (i : Instr), decode w = .legal i → encode i <+: w

/-- 30_encoding.md R142, R145, R149: the decoder accepts exactly the words whose opcode is assigned, whose operand bytes
are all there and whose Bool, group, channel and direction bytes hold legal values. That a shorter word is illegal and a
longer one is not is the model's choice (log 10, DESIGN CHOICE). -/
def Obligations.LegalWordsDecode : Prop :=
  ∀ w : List Byte, (∃ i, decode w = .legal i) ↔ wordLegal w = true

/-- 30_encoding.md R141, R149: words of every class, written out from the format tables, decode to what they stand
for. -/
def Obligations.SpecWordsDecode : Prop :=
  decode [0x0C#8, 0x00#8, 0x05#8, 0x01#8, 0x00#8, 0x00#8] = .legal (.rtcSetAlarm 0#8 0x00000105#32) ∧
  decode [0x07#8, 0x00#8, 0x01#8, 0x00#8, 0x01#8] = .legal (.rtcEnableInterrupts 0#8 0x0001#16 true) ∧
  decode [0x48#8, 0x00#8, 0x50#8, 0x00#8, 0x10#8, 0x00#8, 0x00#8, 0x00#8, 0x01#8, 0x00#8, 0x00#8, 0x00#8, 0x20#8,
    0x01#8, 0x00#8, 0x01#8] = .legal (.i2cMasterTransmit 0#8 0x0050#16 0x10#32 1#8 0x20000000#32 1#16 true) ∧
  decode [0x21#8, 0x06#8] = .legal (.rtcCommit .trim) ∧
  decode [0x65#8, 0x11#8] = .legal (.mRxByte 0x11#8) ∧
  decode [0x84#8, 0x01#8] = .legal (.sRepstart .R) ∧
  decode [0xA3#8, 0x02#8] = .legal (.dmaIsr .srx) ∧
  decode [0xC0#8, 0x00#8] = .legal (.dmaXfer .m)

/-! ### The step -/

/-- 60_exceptions.md R544, R545, 10_state.md R31: while the main context runs eagerly and has a step, the step is the
meaning of the operation that the word at `main.pc` decodes to; when it does not run first, the step is the meaning of
the event or handler that the next schedule line decodes to, on the state that no longer holds the line. -/
def Obligations.StepRunsDecodedWord : Prop :=
  (∀ (s : State) (w : List Byte) (i : Instr), Unmarked s → s.env.eager = true → s.hnd = none →
      s.main.prog[s.main.pc]? = some w → s.main.k.ready s = true → decode w = .legal i → isOperation i = true →
      step s = exec i s) ∧
  (∀ (s : State) (w : List Byte) (rest : List Turn) (i : Instr), Unmarked s →
      (s.env.eager = false ∨ mainReady s = false) → s.env.sched = .event w :: rest → decode w = .legal i →
      isOperation i = false →
      step s = exec i { s with env := { s.env with sched := rest } })

/-- 30_encoding.md R145, log 11 (DESIGN CHOICE: when the word is reached): an illegal word is refused as
IllegalOperation, and an event in a program as EventInProgram, with nothing else changed; an event's opcode with an illegal
operand byte makes an illegal word (log 25, DESIGN CHOICE). 00_scope.md R13, 10_state.md R88, log 7 (DESIGN CHOICE): a
marked state stops, with its fault or its refusal. -/
def Obligations.RefusalsMarkAndStop : Prop :=
  (∀ (s : State) (w : List Byte), Unmarked s → s.env.eager = true → s.hnd = none →
      s.main.prog[s.main.pc]? = some w → s.main.k.ready s = true →
      (wordLegal w = false → step s = .next { s with refused := some .illegalOperation }) ∧
      (∀ i, decode w = .legal i → isOperation i = false →
        step s = .next { s with refused := some .eventInProgram })) ∧
  (∀ s : State, (∀ f, s.fault = some f → step s = .fault f) ∧
      (∀ r, s.fault = none → s.refused = some r → step s = .refused r))

/-- 60_exceptions.md R544: an event or handler that is not enabled is refused as EventNotEnabled, with nothing else
changed. That RTC_FAILSAFE_LATCH with the oscillator off is enabled by 41_rtc_hw.md R276 or not by 10_state.md R33, as a
parameter says, is the model's choice (log 26, DESIGN CHOICE). -/
def Obligations.EventNotEnabledRefused : Prop :=
  ∀ (i : Instr) (s : State), isOperation i = false → enabledWhen i s = false →
    exec i s = .next { s with refused := some .eventNotEnabled }

/-- 00_scope.md R13, 60_exceptions.md R535: an operation whose awaited condition does not hold, or that a handler
invocation keeps from stepping, changes nothing. -/
def Obligations.MainContextHolds : Prop :=
  ∀ (i : Instr) (s : State), isOperation i = true →
    (s.hnd.isSome = true ∨ ∃ c p, s.main.k = .hold c p ∧ c.holds s = false) → exec i s = .next s

/-! ### Invariants that every step keeps -/

/-- 20_memory.md R120: data memory stays in its canonical form. -/
def Obligations.StepKeepsMemoryCanonical : Prop :=
  ∀ s t : State, MemoryCanonical s → step s = .next t → MemoryCanonical t

/-- 10_state.md R34, R35, R38: the undefined bits of the control, status and trim groups stay 0. -/
def Obligations.StepKeepsReservedBitsZero : Prop :=
  ∀ s t : State, ReservedBitsZero s → step s = .next t → ReservedBitsZero t

/-- 10_state.md R53, R61: no FIFO comes to hold more than `P_FIFO_DEPTH` bytes. -/
def Obligations.StepKeepsFifosWithinDepth : Prop :=
  ∀ s t : State, FifosWithinDepth s → step s = .next t → FifosWithinDepth t

/-- 10_state.md R67: the engine is DMA exactly when DMA is on, and blocking and DMA are never both on. -/
def Obligations.StepKeepsEngineMode : Prop :=
  ∀ s t : State, EngineMatchesMode s → step s = .next t → EngineMatchesMode t

/-- 60_exceptions.md R542, 10_state.md R84: between steps `main.crit` is false, and only RTC_ISR can be holding. -/
def Obligations.StepKeepsBetweenSteps : Prop :=
  ∀ s t : State, BetweenSteps s → step s = .next t → BetweenSteps t

/-- 10_state.md R31, 30_encoding.md R143: `main.pc` stays the number of result records. -/
def Obligations.StepKeepsPcCountsResults : Prop :=
  ∀ s t : State, PcCountsResults s → step s = .next t → PcCountsResults t

/-- The invariants hold after reset. The values that the model chose at reset (log 1, log 2) meet them. -/
def Obligations.ResetIsSafe : Prop := Safe State.reset

/-! ### What no instruction does -/

/-- 10_state.md R89: the RTC group and the I2C group share no state. -/
def Obligations.GroupsAreSeparate : Prop :=
  ∀ (i : Instr) (s t : State), exec i s = .next t →
    (rtcGroup i = true →
      t.m = s.m ∧ t.sl = s.sl ∧ t.i2cd = s.i2cd ∧ t.trace = s.trace ∧ t.dma = s.dma ∧ t.mem = s.mem ∧
        t.nvic = { s.nvic with rtc := t.nvic.rtc }) ∧
    (rtcGroup i = false → t.rtc = s.rtc ∧ t.rtcd = s.rtcd ∧ t.nvic.rtc = s.nvic.rtc)

/-- 60_exceptions.md R531: only the listed rules write an interrupt-line enable. -/
def Obligations.LineEnableWriters : Prop :=
  ∀ (i : Instr) (s t : State), writesLines i = false → exec i s = .next t → t.nvic = s.nvic

/-- 20_memory.md R103, R104, R105: no operation and no handler, of the RTC or of the I2C controller, writes a committed
RTC value, but for the WERR bit of a lost write. -/
def Obligations.CommittedRtcValuesKept : Prop :=
  ∀ (i : Instr) (s t : State), (isOperation i = true ∨ isHandler i = true) → exec i s = .next t →
    t.rtc.control = s.rtc.control ∧ t.rtc.count = s.rtc.count ∧ t.rtc.alarm = s.rtc.alarm ∧ t.rtc.trim = s.rtc.trim ∧
      t.rtc.inflight = s.rtc.inflight ∧ (t.rtc.status = s.rtc.status ∨ t.rtc.status = s.rtc.status ||| 0x0002#16)

/-- 10_state.md R77, R88, 30_encoding.md R143: the bus trace, the callback log and the result records are only ever
appended to. -/
def Obligations.LogsOnlyGrow : Prop :=
  ∀ (i : Instr) (s t : State), exec i s = .next t →
    s.trace <+: t.trace ∧ s.cblog <+: t.cblog ∧ s.main.results <+: t.main.results

/-! ### Reset -/

/-- 70_reset_and_hazards.md R581: the values of the POR column, each written out. -/
def Obligations.ResetValues : Prop :=
  State.reset.rtc.oscOn = false ∧ State.reset.rtc.status.getLsbD 2 = true ∧
  State.reset.rtc.posted =
    { control := none, status0 := none, countLo := none, countHi := none, alarmLo := none, alarmHi := none
      trim := none } ∧
  State.reset.rtc.inflight =
    { control := none, status0 := none, countLo := none, countHi := none, alarmLo := none, alarmHi := none
      trim := none } ∧
  State.reset.rtcd = { initialized := false, safeWrite := true, cb := none, watch := 0x0000#16 } ∧
  State.reset.m =
    { en := State.reset.cfg.mctlPorEn
      ie := { txreq := false, rxreq := false, tcomp := false, alost := false, nackA := false, nackD := false }
      dmaTx := false, dmaRx := false, adr1 := 0x00#8, adr2 := 0x00#8, rxcnt := 0x0000#16, extend := false
      rxTarget := 0, txf := [], rxf := [], busy := false, dir := .W, phase := .idle, rsQueued := false
      busHeld := false, nrx := 0, tcomp := false, alost := false, nackA := false, nackD := false } ∧
  State.reset.sl =
    { en := false
      ie := { rxreq := false, txreq := false, repstart := false, stop := false, gcall := false }
      dmaTx := false, dmaRx := false, addr := 0#10, tenBit := false, txf := [], rxf := [], busy := false, dir := .W
      clockHold := false, repstart := false, stop := false, gcall := false, gcId := 0x00#8 } ∧
  State.reset.i2cd =
    { mode := .uninitialized, blocking := false, dma := false, engine := .pio, txPtr := 0x00000000#32, txRem := 0
      rxPtr := 0x00000000#32, rxRem := 0, rxFilled := 0, xferLen := 0, dataAddr := 0x00000000#32, daw := 0
      rs := false, firstFifo := false, tenBit := false, slaveId := 0#10, gcPending := false, gcCmd := 0x00#8
      clockStretch := false, result := .success, complete := true, waitArmed := false, sem := false
      nextSlot := .pri, nextPtr := 0x00000000#32, unsched := 0, sharedIsRx := false, curCh := .m
      dmaOwned := false, cb := none } ∧
  State.reset.trace = [] ∧
  (∀ c : Chan, State.reset.dma.get c =
    { pri := { mode := .invalid, ptr := 0x00000000#32, count := 0, toPeriph := false }
      alt := { mode := .invalid, ptr := 0x00000000#32, count := 0, toPeriph := false }
      cur := .pri, enabled := false, done := false }) ∧
  (∀ l : Line, State.reset.nvic.get l = false) ∧ State.reset.hnd = none ∧ State.reset.main.crit = false ∧
  State.reset.main.pc = 0 ∧ State.reset.main.k = .start ∧ State.reset.main.results = [] ∧
  State.reset.cblog = [] ∧ State.reset.refused = none ∧ State.reset.fault = none

/-- 70_reset_and_hazards.md R580, R581: a CORE reset keeps the RTC domain and data memory, and a POR leaves the RTC domain
as R581 says, whatever is drawn. That a reset is a schedule line, and that the program, the regions and the environment are
kept, is the model's choice (log 13, DESIGN CHOICE); so is that the tape gives the draws, in this order (logs 3, 23). -/
def Obligations.ResetTurns : Prop :=
  ∀ (s : State) (rest : List Turn), Unmarked s → (s.env.eager = false ∨ mainReady s = false) →
    let kept : RtcHw → Env → State := fun rtc env =>
      { State.reset with
        m := { State.reset.m with en := s.cfg.mctlPorEn }
        rtc := rtc, mem := s.mem, regions := s.regions, cfg := s.cfg
        main := { State.reset.main with prog := s.main.prog }
        env := env }
    (s.env.sched = .coreReset :: rest → step s = .next (kept s.rtc { s.env with sched := rest })) ∧
    (s.env.sched = .por :: rest →
      (∃ (f : BitVec 2) (c a : U32) (k t : U16) (e : BitVec 3) (tape : List Nat) (drawn : Nat),
        step s =
          .next (kept (poweredOn s.cfg.trimLayout f c a k t e)
            { s.env with sched := rest, tape := tape, drawn := drawn })) ∧
      (∀ (f : BitVec 2) (c a : U32) (k t : U16) (e : BitVec 3) (tape : List Nat),
        s.env.tape = f.toNat :: c.toNat :: a.toNat :: k.toNat :: t.toNat :: e.toNat :: tape →
        step s =
          .next (kept (poweredOn s.cfg.trimLayout f c a k t e) { s.env with sched := rest, tape := tape })))

/-! ### RTC -/

/-- 40_rtc_ops.md R231: the checks run in the order handle, lifecycle, failsafe, and a failed one ends the operation
with no other effect. -/
def Obligations.RtcHandleGate : Prop :=
  ∀ (i : Instr) (h : Byte) (s : State), rtcHandleOf i = some h → AtStart s →
    (h ≠ 0#8 → exec i s = .next (ret (opcodeOf i) (.rtc .badHandle) {} s)) ∧
    (h = 0#8 → s.rtcd.initialized = false → exec i s = .next (ret (opcodeOf i) (.rtc .notInitialized) {} s)) ∧
    (h = 0#8 → s.rtcd.initialized = true → failsafeExempt i = false → s.rtc.status.getLsbD 2 = true →
      exec i s = .next (ret (opcodeOf i) (.rtc .clockFailsafe) {} s))

/-- 20_memory.md R104, R105: a post to a free posting buffer is kept; a post to an occupied one loses one of the two
writes, either of them, and latches WERR and the group. That the tape gives the draw, and that an odd number keeps the new
write, is the model's choice (logs 3, 23, DESIGN CHOICE). -/
def Obligations.PostedWrite : Prop :=
  ∀ (g : Group) (v : U16) (s : State),
    (s.rtc.posted.get g = none → post g v s = s.setPosted g (some v)) ∧
    (∀ w, s.rtc.posted.get g = some w →
      ∃ (keepNew : Bool) (e : Env),
        post g v s =
          { s with
            env := e
            rtc :=
              { s.rtc with
                posted := if keepNew then s.rtc.posted.set g (some v) else s.rtc.posted
                status := s.rtc.status ||| 0x0002#16
                errSrc := BitVec.ofNat 3 (groupNumber g) } } ∧
        ∀ n rest, s.env.tape = n :: rest → keepNew = (n % 2 == 1) ∧ e = { s.env with tape := rest })

/-- 40_rtc_ops.md R200: RTC_Init, from its start and from each of its two stalls. -/
def Obligations.RtcInit : Prop :=
  (∀ s : State, AtStart s →
      (∀ id, id ≠ 0#8 → exec (.rtcInit id) s = .next (ret 0x00#8 (.rtc .badInstance) {} s)) ∧
      (s.rtcd.initialized = true → exec (.rtcInit 0#8) s = .next (ret 0x00#8 (.rtc .alreadyInitialized) {} s)) ∧
      (s.rtcd.initialized = false → s.rtc.status.getLsbD 2 = true →
        exec (.rtcInit 0#8) s =
          .next (ret 0x00#8 (.rtc .clockFailsafe) {} { s with rtc := { s.rtc with oscOn := true } })) ∧
      (s.rtcd.initialized = false → s.rtc.status.getLsbD 2 = false → s.rtc.posted.control ≠ none →
        exec (.rtcInit 0#8) s =
          .next (State.holdAt
            { s with rtc := { s.rtc with oscOn := true }, rtcd := { s.rtcd with safeWrite := true } }
            (.noPend [.control]) .stall)) ∧
      (s.rtcd.initialized = false → s.rtc.status.getLsbD 2 = false → s.rtc.posted.control = none →
        s.rtc.posted.status0 = none →
        exec (.rtcInit 0#8) s =
          .next (ret 0x00#8 (.rtc .success) { handle := some 0#8 }
            { s with
              rtc :=
                { s.rtc with
                  oscOn := true
                  posted :=
                    { s.rtc.posted with
                      control := some (s.rtc.control &&& ~~~0x0030#16), status0 := some 0x0003#16 } }
              rtcd := { initialized := true, safeWrite := true, cb := none, watch := 0#16 }
              nvic := { s.nvic with rtc := true } })) ∧
      (s.rtcd.initialized = false → s.rtc.status.getLsbD 2 = false → s.rtc.posted.control = none →
        s.rtc.posted.status0 ≠ none →
        exec (.rtcInit 0#8) s =
          .next (State.holdAt
            { s with
              rtc :=
                { s.rtc with
                  oscOn := true
                  posted := { s.rtc.posted with control := some (s.rtc.control &&& ~~~0x0030#16) } }
              rtcd := { s.rtcd with safeWrite := true } }
            (.noPend [.status0]) .statusStall))) ∧
  (∀ (id : Byte) (s : State),
      (Resumes (.noPend [.control]) .stall s → s.rtcd.safeWrite = true → s.rtc.posted.status0 ≠ none →
        exec (.rtcInit id) s =
          .next (State.holdAt
            { s with
              rtc := { s.rtc with posted := { s.rtc.posted with control := some (s.rtc.control &&& ~~~0x0030#16) } } }
            (.noPend [.status0]) .statusStall)) ∧
      (Resumes (.noPend [.control]) .stall s → s.rtc.posted.status0 = none →
        exec (.rtcInit id) s =
          .next (ret 0x00#8 (.rtc .success) { handle := some 0#8 }
            { s with
              rtc :=
                { s.rtc with
                  posted :=
                    { s.rtc.posted with
                      control := some (s.rtc.control &&& ~~~0x0030#16), status0 := some 0x0003#16 } }
              rtcd := { s.rtcd with initialized := true, cb := none, watch := 0#16 }
              nvic := { s.nvic with rtc := true } })) ∧
      (Resumes (.noPend [.status0]) .statusStall s →
        exec (.rtcInit id) s =
          .next (ret 0x00#8 (.rtc .success) { handle := some 0#8 }
            { s with
              rtc := { s.rtc with posted := { s.rtc.posted with status0 := some 0x0003#16 } }
              rtcd := { s.rtcd with initialized := true, cb := none, watch := 0#16 }
              nvic := { s.nvic with rtc := true } })))

/-- 40_rtc_ops.md R201, R209, R229: RTC_UnInit, RTC_EnableSafeWrites and RTC_RegisterCallback write software state and
the core line alone. -/
def Obligations.RtcSoftwareOperations : Prop :=
  ∀ s : State, AtStart s → RtcOpen s →
    exec (.rtcUnInit 0#8) s =
      .next (ret 0x01#8 (.rtc .success) {}
        { s with
          rtcd := { initialized := false, safeWrite := false, cb := none, watch := 0#16 }
          nvic := { s.nvic with rtc := false } }) ∧
    (∀ b, exec (.rtcEnableSafeWrites 0#8 b) s =
      .next (ret 0x08#8 (.rtc .success) {} { s with rtcd := { s.rtcd with safeWrite := b } })) ∧
    (∀ cb watch, exec (.rtcRegisterCallback 0#8 cb watch) s =
      .next (ret 0x15#8 (.rtc .success) {}
        { s with rtcd := { s.rtcd with cb := if cb = 0#8 then none else some cb, watch := watch } }))

/-- 40_rtc_ops.md R202, R228: RTC_ClearFailSafe waits for SYNC STATUS0 to clear and posts the clear, whatever the
lifecycle and the failsafe state; RTC_SynchronizeAllWrites returns once no group is unsynchronized, and holds until
then. -/
def Obligations.RtcSyncWaits : Prop :=
  (∀ s : State,
      (AtStart s → sync s .status0 = true →
        exec .rtcClearFailSafe s = .next (s.holdAt (.noSync [.status0]) .stall)) ∧
      (Reaches (.noSync [.status0]) .stall s →
        exec .rtcClearFailSafe s =
          .next (ret 0x02#8 (.rtc .success) {}
            { s with rtc := { s.rtc with posted := { s.rtc.posted with status0 := some 0x0004#16 } } }))) ∧
  (∀ s : State,
      (AtStart s → RtcOpen s → (∃ g, sync s g = true) →
        exec (.rtcSynchronizeAllWrites 0#8) s = .next (s.holdAt (.noSync allGroups) .stall)) ∧
      (s.hnd = none → s.main.crit = false → (s.main.k = .start ∧ RtcOpen s ∨ s.main.k = .hold (.noSync allGroups) .stall) →
        (∀ g, sync s g = false) →
        exec (.rtcSynchronizeAllWrites 0#8) s = .next (ret 0x14#8 (.rtc .success) {} s)))

/-- 40_rtc_ops.md R203, R204, R205, R206, R207: the control enables. -/
def Obligations.RtcControlEnables : Prop :=
  ∀ (i : Instr) (m : U16) (b : Bool) (s : State), controlEnableOf i = some (m, b) →
    (AtStart s → RtcOpen s →
      exec i s =
        .next (orHold [.control] .stall s
          (ret (opcodeOf i) (.rtc .success) {} (post .control (updated s.rtc.control m b) s)))) ∧
    (Resumes (.noPend [.control]) .stall s →
      exec i s = .next (ret (opcodeOf i) (.rtc .success) {} (post .control (updated s.rtc.control m b) s)))

/-- 40_rtc_ops.md R208, R223, 90_conflicts.md C1: RTC_EnableInterrupts and RTC_ClearInterruptStatus. -/
def Obligations.RtcInterruptOperations : Prop :=
  (∀ (mask : U16) (b : Bool) (s : State), AtStart s → RtcOpen s →
      (mask &&& ~~~0x0003#16 ≠ 0#16 →
        exec (.rtcEnableInterrupts 0#8 mask b) s = .next (ret 0x07#8 (.rtc .badParam) {} s)) ∧
      (mask = 0#16 →
        exec (.rtcEnableInterrupts 0#8 mask b) s =
          .next (ret 0x07#8 (.rtc .success) {} { s with nvic := { s.nvic with rtc := b } })) ∧
      (mask &&& ~~~0x0003#16 = 0#16 → mask ≠ 0#16 →
        exec (.rtcEnableInterrupts 0#8 mask b) s =
          .next (orHold [.control] .stall s
            (ret 0x07#8 (.rtc .success) {}
              (State.setLine (post .control (updated s.rtc.control ((mask &&& 0x0003#16) <<< 4) b) s) .rtc b))))) ∧
  (∀ (mask : U16) (b : Bool) (s : State), Resumes (.noPend [.control]) .stall s →
      exec (.rtcEnableInterrupts 0#8 mask b) s =
        .next (ret 0x07#8 (.rtc .success) {}
          (State.setLine (post .control (updated s.rtc.control ((mask &&& 0x0003#16) <<< 4) b) s) .rtc b))) ∧
  (∀ (mask : U16) (s : State), AtStart s → s.rtcd.initialized = true →
      (s.rtc.status.getLsbD 2 = true → mask ≠ 0x0004#16 →
        exec (.rtcClearInterruptStatus 0#8 mask) s = .next (ret 0x10#8 (.rtc .clockFailsafe) {} s)) ∧
      (s.rtc.status.getLsbD 2 = false ∨ mask = 0x0004#16 →
        (mask &&& ~~~0x0007#16 ≠ 0#16 →
          exec (.rtcClearInterruptStatus 0#8 mask) s = .next (ret 0x10#8 (.rtc .badParam) {} s)) ∧
        (mask = 0#16 → exec (.rtcClearInterruptStatus 0#8 mask) s = .next (ret 0x10#8 (.rtc .success) {} s)) ∧
        (mask &&& ~~~0x0007#16 = 0#16 → mask ≠ 0#16 →
          exec (.rtcClearInterruptStatus 0#8 mask) s =
            .next (orHold [.status0] .stall s (ret 0x10#8 (.rtc .success) {} (post .status0 mask s)))))) ∧
  (∀ (mask : U16) (s : State), Resumes (.noPend [.status0]) .stall s →
      exec (.rtcClearInterruptStatus 0#8 mask) s = .next (ret 0x10#8 (.rtc .success) {} (post .status0 mask s)))

/-- 40_rtc_ops.md R214, R218, R220, R222, R224, R225, R226: what the getters return; they change nothing else. -/
def Obligations.RtcGetters : Prop :=
  (∀ s : State, AtStart s → RtcOpen s →
    exec (.rtcGetCount 0#8) s = .next (ret 0x09#8 (.rtc .success) { value := some s.rtc.count } s) ∧
    exec (.rtcGetAlarm 0#8) s = .next (ret 0x0B#8 (.rtc .success) { value := some s.rtc.alarm } s) ∧
    exec (.rtcGetTrim 0#8) s = .next (ret 0x0D#8 (.rtc .success) { value := some (s.rtc.trim.setWidth 32) } s) ∧
    exec (.rtcGetInterruptStatus 0#8) s =
      .next (ret 0x0F#8 (.rtc .success) { value := some ((s.rtc.status &&& 0x0007#16).setWidth 32) } s) ∧
    exec (.rtcGetWritePendStatus 0#8) s =
      .next (ret 0x11#8 (.rtc .success) { value := some ((groupBits (pend s)).setWidth 32) } s) ∧
    exec (.rtcGetWriteSyncStatus 0#8) s =
      .next (ret 0x12#8 (.rtc .success) { value := some ((groupBits (sync s)).setWidth 32) } s) ∧
    exec (.rtcGetWriteErrorSource 0#8) s =
      .next (ret 0x13#8 (.rtc .success) { value := some (s.rtc.errSrc.setWidth 32) } s)) ∧
  (∀ f : Group → Bool, (∀ g, (groupBits f).getLsbD (groupNumber g) = f g) ∧
    ∀ n, 7 ≤ n → (groupBits f).getLsbD n = false)

/-- 40_rtc_ops.md R215, R219, R221, R232: RTC_SetCount, in failsafe or not, RTC_SetAlarm and RTC_SetTrim; each half of a
32-bit value is posted to its group. -/
def Obligations.RtcSetters : Prop :=
  (∀ (v : U32) (s : State), s.rtcd.initialized = true →
      (AtStart s → s.rtcd.safeWrite = true → (s.rtc.posted.countLo ≠ none ∨ s.rtc.posted.countHi ≠ none) →
        exec (.rtcSetCount 0#8 v) s = .next (s.holdAt (.noPend [.countLo, .countHi]) .stall)) ∧
      (Reaches (.noPend [.countLo, .countHi]) .stall s → s.rtc.status.getLsbD 2 = false →
        exec (.rtcSetCount 0#8 v) s =
          .next (ret 0x0A#8 (.rtc .success) {}
            { s with
              rtc :=
                { s.rtc with
                  posted :=
                    { s.rtc.posted with
                      countLo := some (v.extractLsb' 0 16), countHi := some (v.extractLsb' 16 16) } } })) ∧
      (Reaches (.noPend [.countLo, .countHi]) .stall s → s.rtc.status.getLsbD 2 = true → s.rtc.posted.status0 = none →
        exec (.rtcSetCount 0#8 v) s =
          .next (ret 0x0A#8 (.rtc .success) {}
            { s with
              rtc :=
                { s.rtc with
                  posted :=
                    { s.rtc.posted with
                      countLo := some (v.extractLsb' 0 16), countHi := some (v.extractLsb' 16 16)
                      status0 := some 0x0004#16 } } })) ∧
      (Reaches (.noPend [.countLo, .countHi]) .stall s → s.rtc.status.getLsbD 2 = true → s.rtcd.safeWrite = true →
        s.rtc.posted.status0 ≠ none →
        exec (.rtcSetCount 0#8 v) s =
          .next (State.holdAt
            { s with
              rtc :=
                { s.rtc with
                  posted :=
                    { s.rtc.posted with
                      countLo := some (v.extractLsb' 0 16), countHi := some (v.extractLsb' 16 16) } } }
            (.noPend [.status0]) .statusStall)) ∧
      (AtStart s → s.rtcd.safeWrite = false →
        exec (.rtcSetCount 0#8 v) s =
          .next (ret 0x0A#8 (.rtc .success) {}
            (let t := post .countHi (v.extractLsb' 16 16) (post .countLo (v.extractLsb' 0 16) s)
             if s.rtc.status.getLsbD 2 = true then post .status0 0x0004#16 t else t))) ∧
      (Resumes (.noPend [.status0]) .statusStall s →
        exec (.rtcSetCount 0#8 v) s =
          .next (ret 0x0A#8 (.rtc .success) {}
            { s with rtc := { s.rtc with posted := { s.rtc.posted with status0 := some 0x0004#16 } } }))) ∧
  (∀ s : State, AtStart s → RtcOpen s →
      (∀ v : U32, exec (.rtcSetAlarm 0#8 v) s =
        .next (orHold [.alarmLo, .alarmHi] .stall s
          (ret 0x0C#8 (.rtc .success) {}
            (post .alarmHi (v.extractLsb' 16 16) (post .alarmLo (v.extractLsb' 0 16) s))))) ∧
      (∀ v : U16, exec (.rtcSetTrim 0#8 v) s =
        .next (orHold [.trim] .stall s
          (ret 0x0E#8 (.rtc .success) {} (post .trim (v &&& trimMask s.cfg.trimLayout) s))))) ∧
  (∀ (v : U32) (s : State), Resumes (.noPend [.alarmLo, .alarmHi]) .stall s →
      exec (.rtcSetAlarm 0#8 v) s =
        .next (ret 0x0C#8 (.rtc .success) {}
          (post .alarmHi (v.extractLsb' 16 16) (post .alarmLo (v.extractLsb' 0 16) s)))) ∧
  (∀ (v : U16) (s : State), Resumes (.noPend [.trim]) .stall s →
      exec (.rtcSetTrim 0#8 v) s =
        .next (ret 0x0E#8 (.rtc .success) {} (post .trim (v &&& trimMask s.cfg.trimLayout) s)))

/-- 41_rtc_hw.md R270, R271, R273, R274, 20_memory.md R108, R109: RTC_ACCEPT moves a posted write to the in-flight stage,
RTC_COMMIT gives it effect, and RTC_SECOND counts and latches ALARM when the new count is the alarm and both enables are
committed. -/
def Obligations.RtcSlowDomainEvents : Prop :=
  (∀ (g : Group) (v : U16) (s : State), s.rtc.oscOn = true → s.rtc.posted.get g = some v → s.rtc.inflight.get g = none →
      exec (.rtcAccept g) s =
        .next { s with
          rtc := { s.rtc with inflight := s.rtc.inflight.set g (some v), posted := s.rtc.posted.set g none } }) ∧
  (∀ (g : Group) (v : U16) (s : State), s.rtc.oscOn = true → s.rtc.inflight.get g = some v →
      exec (.rtcCommit g) s =
        .next { s with
          rtc := { committed s.cfg.trimLayout g v s.rtc with inflight := s.rtc.inflight.set g none } }) ∧
  (∀ s : State, s.rtc.oscOn = true → s.rtc.control.getLsbD 0 = true →
      exec .rtcSecond s =
        .next { s with
          rtc :=
            { s.rtc with
              count := s.rtc.count + 1#32
              status :=
                if s.rtc.control.getLsbD 1 = true ∧ s.rtc.count + 1#32 = s.rtc.alarm then s.rtc.status ||| 0x0001#16
                else s.rtc.status } })

/-- 41_rtc_hw.md R276, 10_state.md R33: RTC_FAILSAFE_LATCH draws the RTC domain's values, and every outcome of the draws
is one of its next states. It runs with the oscillator on, and with it off unless the parameter `latchNeedsOsc` has R33
forbid that: the two rules disagree there, and the parameter is the model's choice (log 26, DESIGN CHOICE); so is that the
tape gives the draws, in this order (logs 3, 23, DESIGN CHOICE). -/
def Obligations.RtcFailsafeLatch : Prop :=
  ∀ s : State, s.cfg.rtcDomainIndep = true → (s.rtc.oscOn = true ∨ s.cfg.latchNeedsOsc = false) →
    (∃ (f : BitVec 2) (c a : U32) (k t : U16) (e : BitVec 3) (env : Env),
      exec .rtcFailsafeLatch s =
        .next { s with env := env, rtc := powerLost s.cfg.trimLayout f c a k t e s.rtc }) ∧
    (∀ (f : BitVec 2) (c a : U32) (k t : U16) (e : BitVec 3) (rest : List Nat),
      s.env.tape = f.toNat :: c.toNat :: a.toNat :: k.toNat :: t.toNat :: e.toNat :: rest →
      exec .rtcFailsafeLatch s =
        .next { s with
          env := { s.env with tape := rest }, rtc := powerLost s.cfg.trimLayout f c a k t e s.rtc })

/-- 41_rtc_hw.md R280, 60_exceptions.md R533: RTC_ISR logs the callback when a watched bit has fired, and posts the clear
of the fired bits or holds for it; the second invocation line resumes it. -/
def Obligations.RtcIsr : Prop :=
  ∀ s : State,
    (MayStart .rtc (rtcReq s) s →
      exec .rtcIsr s =
        .next
          (let fired := s.rtc.status &&& 0x0003#16 &&& ((s.rtc.control >>> 4) &&& 0x0003#16)
           let t :=
             if fired &&& s.rtcd.watch ≠ 0#16 then
               { s with cblog := s.cblog ++ (s.rtcd.cb.map fun f => (f, fired.setWidth 32)).toList }
             else s
           if s.rtcd.safeWrite = true ∧ s.rtc.posted.status0 ≠ none then
             { t with hnd := some { handler := .rtcIsr, point := .stall fired } }
           else post .status0 fired t)) ∧
    (∀ fired, s.hnd = some { handler := .rtcIsr, point := .stall fired } → s.rtc.posted.status0 = none →
      exec .rtcIsr s =
        .next { s with
          hnd := none
          rtc := { s.rtc with posted := { s.rtc.posted with status0 := some fired } } })

/-! ### I2C lifecycle and configuration -/

/-- 42_i2c_master.md R328: the checks run in the order handle, lifecycle, mode, and a failed one ends the operation with
no other effect. -/
def Obligations.I2cHandleGate : Prop :=
  ∀ (i : Instr) (h : Byte) (modes : List Mode) (s : State), i2cHandleOf i = some (h, modes) → AtStart s →
    (h ≠ 0#8 → exec i s = .next (ret (opcodeOf i) (.i2c .badHandle) {} s)) ∧
    (h = 0#8 → s.i2cd.mode = .uninitialized → exec i s = .next (ret (opcodeOf i) (.i2c .notInitialized) {} s)) ∧
    (h = 0#8 → s.i2cd.mode ≠ .uninitialized → s.i2cd.mode ∉ modes →
      exec i s = .next (ret (opcodeOf i) (.i2c .badApiForMode) {} s))

/-- 60_exceptions.md R548: the first completion of a transaction counts, a later one changes nothing. -/
def Obligations.CompletionOnce : Prop :=
  ∀ (r : I2CResult) (s : State),
    (s.i2cd.complete = true → signalCompletion r s = s) ∧
    (s.i2cd.complete = false →
      signalCompletion r s =
        { s with
          i2cd := { s.i2cd with result := r, complete := true, sem := if s.i2cd.waitArmed then true else s.i2cd.sem }
          cblog :=
            s.cblog ++ (s.i2cd.cb.map fun f => (f, BitVec.ofNat 32 (i2cCodeNumber (codeOfResult r)))).toList })

/-- 42_i2c_master.md R320, 43_i2c_slave.md R400: the two Inits; under `P_RTOS` the semaphore is drawn. -/
def Obligations.I2cInits : Prop :=
  ∀ s : State, AtStart s →
    (∀ id, id ≠ 0#8 →
      exec (.i2cMasterInit id) s = .next (ret 0x40#8 (.i2c .badInstance) {} s) ∧
      exec (.i2cSlaveInit id) s = .next (ret 0x41#8 (.i2c .badInstance) {} s)) ∧
    (s.i2cd.mode ≠ .uninitialized →
      exec (.i2cMasterInit 0#8) s = .next (ret 0x40#8 (.i2c .alreadyInitialized) {} s) ∧
      exec (.i2cSlaveInit 0#8) s = .next (ret 0x41#8 (.i2c .alreadyInitialized) {} s)) ∧
    (s.i2cd.mode = .uninitialized →
      let d := if s.cfg.rtos then drawBool s else (true, s)
      exec (.i2cMasterInit 0#8) s =
        .next
          (if d.1 then
            ret 0x40#8 (.i2c .success) { handle := some 0#8 }
              { d.2 with
                i2cd := { I2cDriver.reset with mode := .master, blocking := true }
                m := { s.m with en := true, ie := MasterIe.none, dmaTx := false, dmaRx := false }
                nvic := { s.nvic with i2cm := true } }
          else ret 0x40#8 (.i2c .semaphoreError) {} d.2) ∧
      exec (.i2cSlaveInit 0#8) s =
        .next
          (if d.1 then
            ret 0x41#8 (.i2c .success) { handle := some 0#8 }
              { d.2 with
                i2cd := { I2cDriver.reset with mode := .slave, blocking := true }
                sl :=
                  { s.sl with en := false, ie := SlaveIe.none, dmaTx := false, dmaRx := false, clockHold := false }
                nvic := { s.nvic with i2cs := true } }
          else ret 0x41#8 (.i2c .semaphoreError) {} d.2))

/-- 42_i2c_master.md R322: I2C_UnInit. -/
def Obligations.I2cUnInit : Prop :=
  ∀ s : State, AtStart s → s.i2cd.mode ≠ .uninitialized →
    let cleared : State → State := fun t =>
      { t with
        m := { s.m with en := s.cfg.mctlPorEn, ie := MasterIe.none, dmaTx := false, dmaRx := false }
        sl := { s.sl with en := false, ie := SlaveIe.none, dmaTx := false, dmaRx := false, clockHold := false }
        nvic := { t.nvic with i2cm := false, i2cs := false }
        i2cd := I2cDriver.reset }
    (s.m.busy = true ∨ s.sl.busy = true ∨ s.i2cd.complete = false →
      exec (.i2cUnInit 0#8) s = .next (ret 0x42#8 (.i2c .busy) {} s)) ∧
    (s.m.busy = false → s.sl.busy = false → s.i2cd.complete = true → s.i2cd.dmaOwned = false →
      exec (.i2cUnInit 0#8) s = .next (ret 0x42#8 (.i2c .success) {} (cleared s))) ∧
    (s.m.busy = false → s.sl.busy = false → s.i2cd.complete = true → s.i2cd.dmaOwned = true →
      exec (.i2cUnInit 0#8) s =
        .next
          (if (drawBool s).1 then ret 0x42#8 (.i2c .success) {} (cleared (channelsSet false (drawBool s).2))
          else ret 0x42#8 (.i2c .dmaError) {} (drawBool s).2))

/-- 42_i2c_master.md R323, R325, 43_i2c_slave.md R401: the setters that need no active call. -/
def Obligations.I2cSetters : Prop :=
  ∀ s : State, AtStart s → s.i2cd.mode ≠ .uninitialized →
    (s.i2cd.complete = false →
      (∀ b, exec (.i2cSetBlockingMode 0#8 b) s = .next (ret 0x43#8 (.i2c .busy) {} s) ∧
        exec (.i2cSetTenBitAddressing 0#8 b) s = .next (ret 0x46#8 (.i2c .busy) {} s) ∧
        exec (.i2cSetDmaMode 0#8 b) s = .next (ret 0x44#8 (.i2c .busy) {} s)) ∧
      (s.i2cd.mode = .slave →
        ∀ v, exec (.i2cSetSlaveAddress 0#8 v) s = .next (ret 0x45#8 (.i2c .busy) {} s))) ∧
    (s.i2cd.complete = true →
      (s.i2cd.dma = true → exec (.i2cSetBlockingMode 0#8 true) s = .next (ret 0x43#8 (.i2c .badModeCombination) {} s)) ∧
      (∀ b, b = false ∨ s.i2cd.dma = false →
        exec (.i2cSetBlockingMode 0#8 b) s =
          .next (ret 0x43#8 (.i2c .success) {} { s with i2cd := { s.i2cd with blocking := b } })) ∧
      (∀ b, exec (.i2cSetTenBitAddressing 0#8 b) s =
        .next (ret 0x46#8 (.i2c .success) {} { s with i2cd := { s.i2cd with tenBit := b } })) ∧
      (s.i2cd.mode = .slave →
        ∀ v : U16, exec (.i2cSetSlaveAddress 0#8 v) s =
          .next
            (if (s.i2cd.tenBit = false ∧ 0x80 ≤ v.toNat) ∨ 0x400 ≤ v.toNat then ret 0x45#8 (.i2c .badParam) {} s
            else ret 0x45#8 (.i2c .success) {} { s with i2cd := { s.i2cd with slaveId := v.setWidth 10 } })))

/-- 42_i2c_master.md R324, 44_i2c_dma.md R463, R464: I2C_SetDmaMode takes or releases the channels, by a draw. -/
def Obligations.I2cSetDmaMode : Prop :=
  ∀ (b : Bool) (s : State), AtStart s → s.i2cd.mode ≠ .uninitialized → s.i2cd.complete = true →
    (b = true → s.i2cd.blocking = true →
      exec (.i2cSetDmaMode 0#8 b) s = .next (ret 0x44#8 (.i2c .badModeCombination) {} s)) ∧
    (b = false ∨ s.i2cd.blocking = false → b = s.i2cd.dma →
      exec (.i2cSetDmaMode 0#8 b) s = .next (ret 0x44#8 (.i2c .success) {} s)) ∧
    (b = false ∨ s.i2cd.blocking = false → b ≠ s.i2cd.dma →
      exec (.i2cSetDmaMode 0#8 b) s =
        .next
          (if (drawBool s).1 then
            let t := channelsSet b (drawBool s).2
            ret 0x44#8 (.i2c .success) {}
              { t with i2cd := { t.i2cd with dma := b, engine := if b then .dma else .pio } }
          else ret 0x44#8 (.i2c .dmaError) {} (drawBool s).2))

/-- 42_i2c_master.md R326, R327, 43_i2c_slave.md R402, R403: the operations that an active call does not refuse. -/
def Obligations.I2cStatusOperations : Prop :=
  ∀ s : State, AtStart s → s.i2cd.mode ≠ .uninitialized →
    (∀ cb, exec (.i2cRegisterCallback 0#8 cb) s =
      .next (ret 0x4E#8 (.i2c .success) {}
        { s with i2cd := { s.i2cd with cb := if cb = 0#8 then none else some cb } })) ∧
    exec (.i2cGetStatus 0#8) s =
      .next (ret 0x4D#8 (.i2c .success)
        { complete := some s.i2cd.complete, result := some s.i2cd.result, txRem := some s.i2cd.txRem
          rxRem := some s.i2cd.rxRem, rxFilled := some s.i2cd.rxFilled } s) ∧
    (s.i2cd.mode = .slave →
      (∀ b, exec (.i2cSetClockStretch 0#8 b) s =
        .next (ret 0x47#8 (.i2c .success) {} { s with i2cd := { s.i2cd with clockStretch := b } })) ∧
      exec (.i2cGetGeneralCall 0#8) s =
        .next (ret 0x4C#8 (.i2c .success) { pending := some s.i2cd.gcPending, cmd := some s.i2cd.gcCmd }
          { s with i2cd := { s.i2cd with gcPending := false } }))

/-! ### I2C transfers -/

/-- 42_i2c_master.md R336, R330, R331: the checks of the master transfers, and their waits for an idle controller. -/
def Obligations.MasterTransferChecks : Prop :=
  ∀ (sid : U16) (daddr : U32) (daw : Byte) (buf : Addr) (size : U16) (rs : Bool) (s : State), AtStart s →
    s.i2cd.mode = .master →
    let both : (Byte → State) → Prop := fun f =>
      exec (.i2cMasterTransmit 0#8 sid daddr daw buf size rs) s = .next (f 0x48#8) ∧
      exec (.i2cMasterReceive 0#8 sid daddr daw buf size rs) s = .next (f 0x49#8)
    (4 < daw.toNat ∨ (s.i2cd.tenBit = false ∧ 0x80 ≤ sid.toNat) ∨ 0x400 ≤ sid.toNat →
      both (fun op => ret op (.i2c .badParam) {} s)) ∧
    (daw.toNat ≤ 4 → addressTooLarge s.i2cd.tenBit sid = false → size = 0#16 →
      both (fun _ => { s with refused := some .zeroLengthTransfer })) ∧
    (MasterOpen sid daw size s → s.i2cd.engine = .dma → 0 < daw.toNat →
      both (fun _ => { s with refused := some .dmaWithDataAddress })) ∧
    (MasterOpen sid daw size s → (s.i2cd.engine = .pio ∨ daw.toNat = 0) → s.m.busy = true →
      exec (.i2cMasterTransmit 0#8 sid daddr daw buf size rs) s = .next (s.holdAt .masterIdle .idle) ∧
      exec (.i2cMasterReceive 0#8 sid daddr daw buf size rs) s =
        .next (s.holdAt .masterIdle (if 0 < daw.toNat then .subIdle else .idle)))

/-- 42_i2c_master.md R330, R329, R332, R333, R340: I2C_MasterTransmit sets up, pre-fills one byte (a data-address byte,
most significant first, or the first buffer byte) or starts its DMA channel, and launches; a blocking call waits, and
returns the outcome once it is signalled. 20_memory.md R120, 60_exceptions.md R524: where the pre-fill would read outside
every declared region the main context is stuck, which the model shows as a hold that never ends, with nothing else of the
step kept (log 8, DEDUCED). -/
def Obligations.MasterTransmit : Prop :=
  ∀ (sid : U16) (daddr : U32) (daw : Byte) (buf : Addr) (size : U16) (rs : Bool) (s : State),
    (Reaches .masterIdle .idle s → MasterOpen sid daw size s → 1 ≤ s.cfg.fifoDepth → s.i2cd.engine = .pio →
      (0 < daw.toNat →
        exec (.i2cMasterTransmit 0#8 sid daddr daw buf size rs) s =
          .next (launchedCall 0x48#8 (launchOn sid .W
            (let t := transmitted sid daddr (daw.toNat - 1) buf size.toNat rs
               [daddr.extractLsb' (8 * (daw.toNat - 1)) 8] s
             { t with m := { t.m with ie := { t.m.ie with txreq := true } } })))) ∧
      (daw.toNat = 0 → declared s buf = true →
        exec (.i2cMasterTransmit 0#8 sid daddr daw buf size rs) s =
          .next (launchedCall 0x48#8 (launchOn sid .W
            (let t := transmitted sid daddr 0 (buf + 1#32) (size.toNat - 1) rs [Memory.read s.mem buf.toNat] s
             { t with m := { t.m with ie := { t.m.ie with txreq := true } } })))) ∧
      (daw.toNat = 0 → declared s buf = false →
        exec (.i2cMasterTransmit 0#8 sid daddr daw buf size rs) s = .next (s.holdAt .never .stall))) ∧
    (Reaches .masterIdle .idle s → MasterOpen sid daw size s → s.i2cd.engine = .dma → daw.toNat = 0 →
      exec (.i2cMasterTransmit 0#8 sid daddr daw buf size rs) s =
        .next (launchedCall 0x48#8 (launchOn sid .W
          (let t := transmitted sid daddr 0 buf size.toNat rs [] s
           let u := dmaStart .m buf size.toNat { t with i2cd := { t.i2cd with sharedIsRx := false } }
           { u with m := { u.m with dmaTx := true, ie := { u.m.ie with txreq := rs } } })))) ∧
    (Resumes .signalled .done s →
      exec (.i2cMasterTransmit 0#8 sid daddr daw buf size rs) s =
        .next (ret 0x48#8 (.i2c (codeOfResult s.i2cd.result)) {} (waited s)))

/-- 42_i2c_master.md R331, R329, R332, R335, R340: I2C_MasterReceive with no data address sets up, programs the count and
launches a read; a blocking call waits, and returns the outcome once it is signalled. -/
def Obligations.MasterReceive : Prop :=
  ∀ (sid : U16) (daddr : U32) (daw : Byte) (buf : Addr) (size : U16) (rs : Bool) (s : State),
    (Reaches .masterIdle .idle s → MasterOpen sid daw size s → daw.toNat = 0 →
      (s.i2cd.engine = .pio →
        exec (.i2cMasterReceive 0#8 sid daddr daw buf size rs) s =
          .next (launchedCall 0x49#8 (launchOn sid .R
            (let t := receiving sid buf size rs s
             { t with m := { t.m with ie := { t.m.ie with rxreq := true } } })))) ∧
      (s.i2cd.engine = .dma →
        exec (.i2cMasterReceive 0#8 sid daddr daw buf size rs) s =
          .next (launchedCall 0x49#8 (launchOn sid .R
            (let t := receiving sid buf size rs s
             let u := dmaStart .m buf size.toNat { t with i2cd := { t.i2cd with sharedIsRx := true } }
             { u with m := { u.m with dmaRx := true, ie := { u.m.ie with rxreq := rs } } }))))) ∧
    (Resumes .signalled .done s →
      exec (.i2cMasterReceive 0#8 sid daddr daw buf size rs) s =
        .next (ret 0x49#8 (.i2c (codeOfResult s.i2cd.result)) {} (waited s)))

/-- 42_i2c_master.md R331: the addressing sub-transaction of I2C_MasterReceive, which always waits; an error ends the
call at once, and success goes on to the read, whose repeat-start flag is then clear. -/
def Obligations.MasterReceiveWithAddress : Prop :=
  ∀ (sid : U16) (daddr : U32) (daw : Byte) (buf : Addr) (size : U16) (rs : Bool) (s : State), 0 < daw.toNat →
    (Reaches .masterIdle .subIdle s → MasterOpen sid daw size s → 1 ≤ s.cfg.fifoDepth → s.i2cd.engine = .pio →
      exec (.i2cMasterReceive 0#8 sid daddr daw buf size rs) s =
        .next (State.holdAt (launchOn sid .W
          (let t := transmitted sid daddr (daw.toNat - 1) s.i2cd.txPtr 0 rs
             [daddr.extractLsb' (8 * (daw.toNat - 1)) 8] s
           { t with
             i2cd := { t.i2cd with waitArmed := true }
             m := { t.m with ie := { t.m.ie with txreq := true } } })) .signalled .subDone)) ∧
    (Resumes .signalled .subDone s → s.i2cd.result ≠ .success →
      exec (.i2cMasterReceive 0#8 sid daddr daw buf size rs) s =
        .next (ret 0x49#8 (.i2c (codeOfResult s.i2cd.result)) {} (waited s))) ∧
    (Resumes .signalled .subDone s → s.i2cd.result = .success → s.m.busy = true →
      exec (.i2cMasterReceive 0#8 sid daddr daw buf size rs) s =
        .next (State.holdAt (waited s) .masterIdle .idle)) ∧
    (Resumes .signalled .subDone s → s.i2cd.result = .success → s.m.busy = false → s.i2cd.engine = .pio →
      exec (.i2cMasterReceive 0#8 sid daddr daw buf size rs) s =
        .next (launchedCall 0x49#8 (launchOn sid .R
          (let t := receiving sid buf size false s
           { t with m := { t.m with ie := { t.m.ie with rxreq := true } } })))) ∧
    (Resumes .masterIdle .idle s → s.i2cd.engine = .pio →
      exec (.i2cMasterReceive 0#8 sid daddr daw buf size rs) s =
        .next (launchedCall 0x49#8 (launchOn sid .R
          (let t := receiving sid buf size false s
           { t with m := { t.m with ie := { t.m.ie with rxreq := true } } }))))

/-- 43_i2c_slave.md R410, R411, R412: the checks of the slave transfers, their wait for an idle engine, and the return of
a blocking call with its counts. -/
def Obligations.SlaveTransferChecks : Prop :=
  ∀ (i : Instr) (buf : Addr) (size : U16) (s : State),
    (i = .i2cSlaveTransmit 0#8 buf size ∨ i = .i2cSlaveReceive 0#8 buf size) →
    (AtStart s → s.i2cd.mode = .slave →
      (s.i2cd.gcPending = true → exec i s = .next (ret (opcodeOf i) (.i2c .generalCallPending) {} s)) ∧
      (s.i2cd.gcPending = false → s.i2cd.tenBit = false → 0x80 ≤ s.i2cd.slaveId.toNat →
        exec i s = .next (ret (opcodeOf i) (.i2c .badParam) {} s)) ∧
      (s.i2cd.gcPending = false → ¬(s.i2cd.tenBit = false ∧ 0x80 ≤ s.i2cd.slaveId.toNat) → size = 0#16 →
        exec i s = .next { s with refused := some .zeroLengthTransfer }) ∧
      (SlaveOpen size s → s.sl.busy = true → s.sl.clockHold = false →
        exec i s = .next (s.holdAt .slaveIdle .idle))) ∧
    (Resumes .signalled .done s →
      exec i s =
        .next (ret (opcodeOf i) (.i2c (codeOfResult s.i2cd.result))
          { txRem := some s.i2cd.txRem, rxRem := some s.i2cd.rxRem, rxFilled := some s.i2cd.rxFilled } (waited s)))

/-- 43_i2c_slave.md R410: I2C_SlaveTransmit bursts as many bytes as the FIFO holds, in buffer order, or starts its DMA
channel. 20_memory.md R120, 60_exceptions.md R524: where the burst would read outside every declared region the main
context is stuck, which the model shows as a hold that never ends, with nothing else of the step kept (log 8, DEDUCED). -/
def Obligations.SlaveTransmit : Prop :=
  ∀ (buf : Addr) (size : U16) (s : State), Reaches .slaveIdle .idle s → SlaveOpen size s →
    (s.i2cd.engine = .pio →
      (∀ k < min size.toNat s.cfg.fifoDepth, declared s (buf + BitVec.ofNat 32 k) = true) →
      exec (.i2cSlaveTransmit 0#8 buf size) s =
        .next (launchedCall 0x4A#8
          (let n := min size.toNat s.cfg.fifoDepth
           let t := slaveReady size s
           { t with
             i2cd := { t.i2cd with txPtr := buf + BitVec.ofNat 32 n, txRem := size.toNat - n, rxRem := 0 }
             sl := { t.sl with txf := bufferBytes s buf n, ie := { t.sl.ie with txreq := true } } }))) ∧
    (s.i2cd.engine = .pio →
      (∃ k < min size.toNat s.cfg.fifoDepth, declared s (buf + BitVec.ofNat 32 k) = false) →
      exec (.i2cSlaveTransmit 0#8 buf size) s = .next (s.holdAt .never .stall)) ∧
    (s.i2cd.engine = .dma →
      exec (.i2cSlaveTransmit 0#8 buf size) s =
        .next (launchedCall 0x4A#8
          (let t := slaveReady size s
           let u := dmaStart .stx buf size.toNat
             { t with
               i2cd := { t.i2cd with txPtr := buf, txRem := size.toNat, rxRem := 0 }, sl := { t.sl with txf := [] } }
           { u with sl := { u.sl with dmaTx := true } })))

/-- 43_i2c_slave.md R411: I2C_SlaveReceive enables the receive request, or starts its DMA channel; it flushes no FIFO. -/
def Obligations.SlaveReceive : Prop :=
  ∀ (buf : Addr) (size : U16) (s : State), Reaches .slaveIdle .idle s → SlaveOpen size s →
    (s.i2cd.engine = .pio →
      exec (.i2cSlaveReceive 0#8 buf size) s =
        .next (launchedCall 0x4B#8
          (let t := slaveReady size s
           { t with
             i2cd := { t.i2cd with rxPtr := buf, rxRem := size.toNat, txRem := 0 }
             sl := { t.sl with ie := { t.sl.ie with rxreq := true } } }))) ∧
    (s.i2cd.engine = .dma →
      exec (.i2cSlaveReceive 0#8 buf size) s =
        .next (launchedCall 0x4B#8
          (let t := slaveReady size s
           let u := dmaStart .srx buf size.toNat
             { t with i2cd := { t.i2cd with rxPtr := buf, rxRem := size.toNat, txRem := 0 } }
           { u with sl := { u.sl with dmaRx := true } })))

/-! ### The master engine and its handler -/

/-- 42_i2c_master.md R340: a write of the first address register launches when the side is enabled and idle, queues a
repeated start during a transfer, whether or not the side is enabled (as the pseudocode has it), and otherwise only stores
the byte. -/
def Obligations.WriteAdr1 : Prop :=
  ∀ (b : Byte) (s : State),
    (s.m.busy = true → writeAdr1 b s = { s with m := { s.m with adr1 := b, rsQueued := true } }) ∧
    (s.m.busy = false → s.m.en = false → writeAdr1 b s = { s with m := { s.m with adr1 := b } }) ∧
    (s.m.busy = false → s.m.en = true →
      writeAdr1 b s =
        { s with
          m :=
            { s.m with
              adr1 := b, busy := true, dir := if b.getLsbD 0 = true then .R else .W, nrx := 0, busHeld := false
              phase := .addrWait }
          trace := s.trace ++ [if s.m.busHeld then .sr else .start] })

/-- 42_i2c_master.md R360, R361, R365, R366, R367, R368: the address step, and the ends of a transfer. A queued repeated
start keeps the bus, with no STOP; a lost arbitration releases it, with none. -/
def Obligations.MasterAddressAndEndEvents : Prop :=
  (∀ s : State, s.m.busy = true → s.m.phase = .addrWait →
      exec .mAddrAck s =
        .next { s with m := { s.m with phase := .data }, trace := s.trace ++ (addressShown s.m ++ [.ack]) } ∧
      exec .mAddrNack s =
        .next { s with
          m := { ended false s.m with nackA := true }
          trace := s.trace ++ (addressShown s.m ++ [.nack, .stop]) }) ∧
  (∀ s : State, s.m.busy = true →
      exec .mAlost s = .next { s with m := { ended false s.m with alost := true }, trace := s.trace ++ [.alost] } ∧
      (s.m.phase = .data →
        let t :=
          { s with
            m := { ended s.m.rsQueued s.m with tcomp := true }
            trace := s.trace ++ (if s.m.rsQueued then [] else [.stop]) }
        (s.m.dir = .W → s.m.txf = [] → exec .mTxEnd s = .next t) ∧
        (s.m.dir = .R → s.m.nrx = s.m.rxTarget → exec .mRxEnd s = .next t)))

/-- 42_i2c_master.md R362, R364, R363, R368: the data steps. -/
def Obligations.MasterDataEvents : Prop :=
  ∀ (b : Byte) (f : List Byte) (s : State), s.m.busy = true → s.m.phase = .data →
    (s.m.dir = .W → s.m.txf = b :: f →
      exec .mTxByteAck s = .next { s with m := { s.m with txf := f }, trace := s.trace ++ [.data b, .ack] } ∧
      exec .mTxByteNack s =
        .next { s with
          m := { ended false s.m with txf := f, nackD := true }, trace := s.trace ++ [.data b, .nack, .stop] }) ∧
    (s.m.dir = .R → s.m.nrx < s.m.rxTarget → s.m.rxf.length < s.cfg.fifoDepth →
      exec (.mRxByte b) s =
        .next { s with
          m := { s.m with rxf := s.m.rxf ++ [b], nrx := s.m.nrx + 1 }
          trace := s.trace ++ [.data b, if s.m.nrx + 1 = s.m.rxTarget then .nack else .ack] })

/-- 42_i2c_master.md R370, R373, R346: a latched error resets the control fields and completes the transaction, by the
precedence ALOST, NACK_ADDRESS, NACK_DATA. -/
def Obligations.MasterIsrError : Prop :=
  ∀ s : State, MayStart .i2cm (masterReq s) s → (s.m.alost = true ∨ s.m.nackA = true ∨ s.m.nackD = true) →
    exec .i2cmIsr s =
      .next (signalCompletion
        (if s.m.alost then .masterAlost else if s.m.nackA then .masterNackAddress else .masterNackData)
        { s with
          m :=
            { s.m with
              alost := false, nackA := false, nackD := false, tcomp := false, en := s.cfg.mctlPorEn
              ie := MasterIe.none, dmaTx := false, dmaRx := false } })

/-- 42_i2c_master.md R370, R371, R372, R333, R334: with no error latched, a due FIFO service checks the repeat start and
moves one byte, or completes, or in DMA mode turns the requests off; then a latched TCOMP is served. The data-address clause
at a width above 4, which no run reaches, is the model's reading (log 22, DEDUCED). 20_memory.md R116: a push to a full FIFO
is a model fault, marked on the state before the step (log 7, DESIGN CHOICE). 20_memory.md R120, 60_exceptions.md R524: a
handler that would access memory outside every declared region is stuck, so its line is not enabled (log 8, DEDUCED). -/
def Obligations.MasterIsrService : Prop :=
  ∀ s : State, MayStart .i2cm (masterReq s) s → s.m.alost = false → s.m.nackA = false → s.m.nackD = false →
    (fifoReqM s = false → exec .i2cmIsr s = .next (tcompServed s)) ∧
    (fifoReqM s = true → s.i2cd.engine = .dma →
      exec .i2cmIsr s =
        .next (tcompServed
          (let t := repeatChecked s
           { t with m := { t.m with ie := { t.m.ie with txreq := false, rxreq := false } } }))) ∧
    (fifoReqM s = true → s.i2cd.engine = .pio → s.i2cd.rxRem = 0 → 0 < s.i2cd.daw →
      s.m.txf.length < s.cfg.fifoDepth →
      exec .i2cmIsr s =
        .next (tcompServed
          (let t := repeatChecked s
           { t with
             m := { t.m with txf := s.m.txf ++ [s.i2cd.dataAddr.extractLsb' (8 * (s.i2cd.daw - 1)) 8] }
             i2cd := { t.i2cd with daw := s.i2cd.daw - 1 } }))) ∧
    (fifoReqM s = true → s.i2cd.engine = .pio → s.i2cd.rxRem = 0 → s.i2cd.daw = 0 → 0 < s.i2cd.txRem →
      s.m.txf.length < s.cfg.fifoDepth → declared s s.i2cd.txPtr = true →
      exec .i2cmIsr s =
        .next (tcompServed
          (let t := repeatChecked s
           { t with
             m := { t.m with txf := s.m.txf ++ [Memory.read s.mem s.i2cd.txPtr.toNat] }
             i2cd := { t.i2cd with txPtr := s.i2cd.txPtr + 1#32, txRem := s.i2cd.txRem - 1 } }))) ∧
    (fifoReqM s = true → s.i2cd.engine = .pio → s.i2cd.rxRem = 0 → s.i2cd.daw = 0 → s.i2cd.txRem = 0 →
      exec .i2cmIsr s =
        .next (tcompServed
          (let t := repeatChecked s
           signalCompletion .success { t with m := { t.m with ie := { t.m.ie with txreq := false } } }))) ∧
    (∀ b f, fifoReqM s = true → s.i2cd.engine = .pio → 0 < s.i2cd.rxRem → s.m.rxf = b :: f →
      declared s s.i2cd.rxPtr = true →
      exec .i2cmIsr s =
        .next (tcompServed
          (let t := repeatChecked s
           let u :=
             { t with
               mem := Memory.write s.mem s.i2cd.rxPtr.toNat b
               m := { t.m with rxf := f }
               i2cd := { t.i2cd with rxPtr := s.i2cd.rxPtr + 1#32, rxRem := s.i2cd.rxRem - 1 } }
           if s.i2cd.rxRem = 1 then
             signalCompletion .success { u with m := { u.m with ie := { u.m.ie with rxreq := false } } }
           else u))) ∧
    (fifoReqM s = true → s.i2cd.engine = .pio → 0 < s.i2cd.rxRem → s.m.rxf = [] →
      exec .i2cmIsr s = .next (tcompServed (repeatChecked s))) ∧
    (fifoReqM s = true → s.i2cd.engine = .pio → s.i2cd.rxRem = 0 →
      (0 < s.i2cd.daw ∨ 0 < s.i2cd.txRem ∧ declared s s.i2cd.txPtr = true) → s.cfg.fifoDepth ≤ s.m.txf.length →
      exec .i2cmIsr s = .next { s with fault := some .fifoOverflow }) ∧
    (fifoReqM s = true → s.i2cd.engine = .pio →
      (0 < s.i2cd.rxRem ∧ s.m.rxf ≠ [] ∧ declared s s.i2cd.rxPtr = false ∨
        s.i2cd.rxRem = 0 ∧ s.i2cd.daw = 0 ∧ 0 < s.i2cd.txRem ∧ declared s s.i2cd.txPtr = false) →
      exec .i2cmIsr s = .next { s with refused := some .eventNotEnabled })

/-! ### The slave engine and its handler -/

/-- 43_i2c_slave.md R420, R424, R425, R426, R427: the address, repeat-start, stop and general-call events. That one ACK
follows both bytes of a 10-bit address is the model's reading (log 27, DEDUCED). -/
def Obligations.SlaveAddressEvents : Prop :=
  ∀ (d : Dir) (b : Byte) (s : State),
    (s.sl.en = true → s.sl.busy = false →
      exec (.sAddrMatch d) s =
        .next { s with
          sl := { s.sl with busy := true, dir := d }
          trace := s.trace ++ ([.start] ++ slaveAddressShown d s.sl ++ [.ack]) } ∧
      exec (.sGcall b) s =
        .next { s with
          sl := { s.sl with busy := true, dir := .W, gcall := true, gcId := b }
          trace := s.trace ++ [.start, .addr 0x00#8, .ack, .data b, .ack] }) ∧
    (s.sl.busy = true → s.sl.clockHold = false → s.sl.repstart = false →
      exec (.sRepstart d) s =
        .next { s with
          sl := { s.sl with repstart := true, dir := d }
          trace := s.trace ++ ([.sr] ++ slaveAddressShown d s.sl ++ [.ack]) } ∧
      exec .sStop s = .next { s with sl := { s.sl with stop := true, busy := false }, trace := s.trace ++ [.stop] })

/-- 43_i2c_slave.md R421, R422, R423: the data events; the byte of an underflow is drawn, and every byte is an outcome.
That the tape gives the draw is the model's choice (logs 3, 23, DESIGN CHOICE). -/
def Obligations.SlaveDataEvents : Prop :=
  ∀ (b : Byte) (s : State), s.sl.busy = true → s.sl.clockHold = false → s.sl.repstart = false →
    (s.sl.dir = .W → s.sl.rxf.length < s.cfg.fifoDepth →
      exec (.sRxByte b) s =
        .next { s with sl := { s.sl with rxf := s.sl.rxf ++ [b] }, trace := s.trace ++ [.data b, .ack] }) ∧
    (∀ f, s.sl.dir = .R → s.sl.txf = b :: f →
      exec .sTxByte s = .next { s with sl := { s.sl with txf := f }, trace := s.trace ++ [.data b, .ack] }) ∧
    (s.sl.dir = .R → s.sl.txf = [] →
      (∃ (x : Byte) (e : Env),
        exec .sTxUnderflow s = .next { s with env := e, trace := s.trace ++ [.data x, .ack] }) ∧
      (∀ rest, s.env.tape = b.toNat :: rest →
        exec .sTxUnderflow s =
          .next { s with env := { s.env with tape := rest }, trace := s.trace ++ [.data b, .ack] }))

/-- 43_i2c_slave.md R430, R431, R432, R435, 44_i2c_dma.md R466: with nothing latched, a pass serves the receive and the
transmit request that are due, in this order and one byte each, and ends the call with SUCCESS when a count is exhausted.
20_memory.md R120, 60_exceptions.md R524: a handler that would access memory outside every declared region, with bits
latched or not, is stuck, so its line is not enabled (log 8, DEDUCED). -/
def Obligations.SlaveIsrFifo : Prop :=
  ∀ s : State, MayStart .i2cs (slaveReq s) s →
    (NoSlaveLatch s → SlaveAccessDeclared s →
      exec .i2csIsr s =
        .next (if countExhausted s then slaveEnded .success (progressNoted (fifosServed s)) else fifosServed s)) ∧
    (¬SlaveAccessDeclared s → exec .i2csIsr s = .next { s with refused := some .eventNotEnabled })

/-- 43_i2c_slave.md R430, R433, R434, R435, R436, 44_i2c_dma.md R466, R467: a pass that finds latched bits first serves the
FIFO requests that are due, then services all the latched bits, and has one exit: the repeat start, else the SUCCESS of an
exhausted count, else the stop, else the general call. In DMA mode with the call active it notes the progress of the
current channel once, of either direction, and stops the channel. -/
def Obligations.SlaveIsrLatched : Prop :=
  ∀ s : State, MayStart .i2cs (slaveReq s) s → ¬NoSlaveLatch s → SlaveAccessDeclared s →
    exec .i2csIsr s =
      .next
        (let t := progressNoted (fifosServed s)
         signalCompletion (if s.sl.repstart = false ∧ countExhausted s then .success else latchExit s)
           { t with
             sl := latchesServed t
             i2cd :=
               { latchesNoted t with
                 txRem := if s.sl.repstart then 0 else t.i2cd.txRem
                 rxRem := if s.sl.repstart then 0 else t.i2cd.rxRem } })

/-! ### DMA -/

/-- 44_i2c_dma.md R460, R461, R465: starting a transfer submits its first two chunks, the second only when bytes
remain. -/
def Obligations.DmaStart : Prop :=
  ∀ (c : Chan) (buf : Addr) (n : Nat) (s : State), 1 ≤ n → 1 ≤ s.cfg.dmaMax →
    let k := min n s.cfg.dmaMax
    let k2 := min (n - k) s.cfg.dmaMax
    dmaStart c buf n s =
      { s with
        dma :=
          s.dma.set c
            { pri := { mode := .pingpong, ptr := buf, count := k, toPeriph := toPeriph s c }
              alt :=
                if n ≤ s.cfg.dmaMax then { mode := .invalid, ptr := 0#32, count := 0, toPeriph := toPeriph s c }
                else { mode := .pingpong, ptr := buf + BitVec.ofNat 32 k, count := k2, toPeriph := toPeriph s c }
              cur := .pri, enabled := true, done := false }
        i2cd :=
          { s.i2cd with
            curCh := c, nextSlot := .pri, unsched := n - k - k2
            nextPtr := buf + BitVec.ofNat 32 k + BitVec.ofNat 32 k2
            txRem := if toPeriph s c then n else s.i2cd.txRem
            rxRem := if toPeriph s c then s.i2cd.rxRem else n } }

/-- 44_i2c_dma.md R481: the chunks that the scheduler makes of `L` bytes are `P_DMA_MAX` long but for the last, and they
sum to `L`; the running pointer advances by each chunk's length (R461); the call after the last submits an inactive
descriptor. -/
def Obligations.DmaChunks : Prop :=
  ∀ s : State, 1 ≤ s.i2cd.unsched → 1 ≤ s.cfg.dmaMax →
    let q := (s.i2cd.unsched - 1) / s.cfg.dmaMax
    (∀ k, k < q → nextChunk (scheduled k s) = s.cfg.dmaMax) ∧
    nextChunk (scheduled q s) = s.i2cd.unsched - s.cfg.dmaMax * q ∧
    (∀ k, k ≤ q → (scheduled k s).i2cd.unsched = s.i2cd.unsched - s.cfg.dmaMax * k ∧
      (scheduled k s).i2cd.nextPtr = s.i2cd.nextPtr + BitVec.ofNat 32 (s.cfg.dmaMax * k) ∧
      ((scheduled (k + 1) s).dma.get s.i2cd.curCh).slot (scheduled k s).i2cd.nextSlot =
        { mode := .pingpong, ptr := (scheduled k s).i2cd.nextPtr, count := nextChunk (scheduled k s)
          toPeriph := toPeriph s s.i2cd.curCh }) ∧
    (scheduled (q + 1) s).i2cd.unsched = 0 ∧
    (scheduled (q + 1) s).i2cd.nextPtr = s.i2cd.nextPtr + BitVec.ofNat 32 s.i2cd.unsched ∧
    (scheduled (q + 2) s).i2cd.nextPtr = (scheduled (q + 1) s).i2cd.nextPtr ∧
    ((scheduled (q + 2) s).dma.get s.i2cd.curCh).slot (scheduled (q + 1) s).i2cd.nextSlot =
      Desc.inactive (toPeriph s s.i2cd.curCh)

/-- 44_i2c_dma.md R470: DMA_XFER moves one element between memory and the FIFO of its channel. 20_memory.md R120,
60_exceptions.md R524: an engine whose access lies outside every declared region is stuck, so its line is not enabled
(log 8, DEDUCED). -/
def Obligations.DmaXfer : Prop :=
  ∀ (c : Chan) (s : State), (s.dma.get c).enabled = true → (curDesc s c).mode = .pingpong → dmaReq s c = true →
    (declared s (curDesc s c).ptr = false → ((curDesc s c).toPeriph = true ∨ c ≠ .m ∨ s.m.rxf ≠ []) →
      exec (.dmaXfer c) s = .next { s with refused := some .eventNotEnabled }) ∧
    (declared s (curDesc s c).ptr = true →
    let done : State → State := fun t => { t with dma := s.dma.set c (elementMoved (s.dma.get c)) }
    let a := (curDesc s c).ptr.toNat
    ((curDesc s c).toPeriph = true →
      (c = .m → s.m.txf.length < s.cfg.fifoDepth →
        exec (.dmaXfer c) s = .next (done { s with m := { s.m with txf := s.m.txf ++ [Memory.read s.mem a] } })) ∧
      (c = .stx →
        exec (.dmaXfer c) s =
          .next (done { s with sl := { s.sl with txf := s.sl.txf ++ [Memory.read s.mem a] } }))) ∧
    ((curDesc s c).toPeriph = false →
      (∀ b f, c = .m → s.m.rxf = b :: f →
        exec (.dmaXfer c) s =
          .next (done { s with m := { s.m with rxf := f }, mem := Memory.write s.mem a b })) ∧
      (∀ b f, c = .srx → s.sl.rxf = b :: f →
        exec (.dmaXfer c) s =
          .next (done { s with sl := { s.sl with rxf := f }, mem := Memory.write s.mem a b }))))

/-- 44_i2c_dma.md R480, R461, R465: DMA_ISR completes the transfer when both slots are inactive, schedules one more when
exactly one is, and only clears `done` on a stale channel or a spurious interrupt. On a slot mismatch, which no run reaches,
the fault is marked on the state before the step, its `done` still set: that nothing of such a step is kept is the model's
choice (log 7, DESIGN CHOICE). -/
def Obligations.DmaIsr : Prop :=
  ∀ (c : Chan) (s : State), MayStart (lineOfChan c) (s.dma.get c).done s →
    let t := { s with dma := s.dma.set c { s.dma.get c with done := false } }
    let pa := (s.dma.get c).pri.mode = .pingpong
    let aa := (s.dma.get c).alt.mode = .pingpong
    (s.i2cd.dmaOwned = false ∨ c ≠ s.i2cd.curCh → exec (.dmaIsr c) s = .next t) ∧
    (s.i2cd.dmaOwned = true → c = s.i2cd.curCh →
      (pa → aa → exec (.dmaIsr c) s = .next t) ∧
      (¬pa → ¬aa →
        exec (.dmaIsr c) s =
          .next
            (let u :=
               { t with
                 m := { s.m with dmaTx := s.m.dmaTx && c != .m, dmaRx := s.m.dmaRx && c != .m }
                 sl := { s.sl with dmaTx := s.sl.dmaTx && c != .stx, dmaRx := s.sl.dmaRx && c != .srx }
                 i2cd :=
                   { s.i2cd with
                     txRem := if toPeriph s c then s.i2cd.unsched else s.i2cd.txRem
                     rxRem := if toPeriph s c then s.i2cd.rxRem else s.i2cd.unsched
                     rxFilled :=
                       if c = .srx ∧ s.i2cd.complete = false then s.i2cd.xferLen - s.i2cd.unsched
                       else s.i2cd.rxFilled } }
             signalCompletion .success u)) ∧
      (pa ≠ aa → (pa → s.i2cd.nextSlot = .alt) → (aa → s.i2cd.nextSlot = .pri) →
        exec (.dmaIsr c) s =
          .next
            (let u := scheduleNext t
             { u with
               i2cd :=
                 { u.i2cd with
                   txRem := if toPeriph s c then dmaRemaining u c else s.i2cd.txRem
                   rxRem := if toPeriph s c then s.i2cd.rxRem else dmaRemaining u c } })) ∧
      (pa ≠ aa → (pa ∧ s.i2cd.nextSlot = .pri ∨ aa ∧ s.i2cd.nextSlot = .alt) →
        exec (.dmaIsr c) s = .next { s with fault := some .dmaSlotMismatch }))

end Statements
end

