-- ==== Sys2Proof/Laws/Fields.lean ====
section
/-! SUPPORT. What reading an indexed register gives after writing one. -/

namespace Sys2Proof.Machine

theorem PerGroup.get_set {α : Type} (p : PerGroup α) (g g' : Group) (v : α) :
    (p.set g v).get g' = if g' = g then v else p.get g' := by
  cases g <;> cases g' <;> rfl

@[simp] theorem PerGroup.get_set_self {α : Type} (p : PerGroup α) (g : Group) (v : α) : (p.set g v).get g = v := by
  cases g <;> rfl

theorem DmaHw.get_set (d : DmaHw) (c c' : Chan) (v : Channel) : (d.set c v).get c' = if c' = c then v else d.get c' := by
  cases c <;> cases c' <;> rfl

@[simp] theorem DmaHw.get_set_self (d : DmaHw) (c : Chan) (v : Channel) : (d.set c v).get c = v := by
  cases c <;> rfl

theorem Channel.slot_setSlot (c : Channel) (t t' : Slot) (d : Desc) :
    (c.setSlot t d).slot t' = if t' = t then d else c.slot t' := by
  cases t <;> cases t' <;> rfl

theorem Nvic.get_set (n : Nvic) (l l' : Line) (b : Bool) : (n.set l b).get l' = if l' = l then b else n.get l' := by
  cases l <;> cases l' <;> rfl

@[simp] theorem Nvic.set_get_self (n : Nvic) (l : Line) : n.set l (n.get l) = n := by
  cases l <;> rfl

@[simp] theorem Nvic.set_set (n : Nvic) (l : Line) (a b : Bool) : (n.set l a).set l b = n.set l b := by
  cases l <;> rfl

@[simp] theorem Slot.other_other (t : Slot) : t.other.other = t := by cases t <;> rfl

end Sys2Proof.Machine
end

