-- ==== Sys2Proof/Laws/Memory.lean ====
section
/-! SUPPORT. The laws of data memory: reading after writing, and the canonical form. -/

namespace Sys2Proof.Machine

/-- A byte below every listed address reads as an unlisted one. -/
theorem Memory.read_below : ∀ (m : Memory) (a : Nat), (∀ c ∈ m, a < c.1) → Memory.read m a = unlistedByte
  | [], _, _ => rfl
  | (k, w) :: rest, a, h => by
    have hk : a < k := h (k, w) (by simp)
    simp only [Memory.read, if_neg (Nat.ne_of_gt hk)]
    exact Memory.read_below rest a fun c hc => h c (by simp [hc])

/-- The byte written is the byte read. -/
theorem Memory.read_write_same : ∀ (m : Memory) (a : Nat) (v : Byte), Memory.wf m →
    Memory.read (Memory.write m a v) a = v
  | [], a, v, _ => by
    by_cases hv : v = unlistedByte <;> simp [Memory.write, Memory.read, hv]
  | (k, w) :: rest, a, v, h => by
    obtain ⟨hp, hn⟩ := h
    obtain ⟨hlt, hp'⟩ := List.pairwise_cons.1 hp
    simp only [Memory.write]
    by_cases h1 : a < k
    · have hb : Memory.read ((k, w) :: rest) a = unlistedByte := Memory.read_below _ a fun c hc => by
        rcases List.mem_cons.1 hc with rfl | hc
        · exact h1
        · exact Nat.lt_trans h1 (hlt c hc)
      by_cases hv : v = unlistedByte
      · rw [if_pos h1, if_pos hv, hb, hv]
      · simp [h1, hv, Memory.read]
    · by_cases h2 : a = k
      · subst h2
        by_cases hv : v = unlistedByte
        · simp [hv, Memory.read_below rest a hlt]
        · simp [hv, Memory.read]
      · rw [if_neg h1, if_neg h2]
        simp only [Memory.read, if_neg (Ne.symm h2)]
        exact Memory.read_write_same rest a v ⟨hp', fun c hc => hn c (by simp [hc])⟩

/-- Every other byte reads as before. -/
theorem Memory.read_write_other : ∀ (m : Memory) (a b : Nat) (v : Byte), Memory.wf m → b ≠ a →
    Memory.read (Memory.write m a v) b = Memory.read m b
  | [], a, b, v, _, hb => by
    by_cases hv : v = unlistedByte <;> simp [Memory.write, Memory.read, hv, hb.symm]
  | (k, w) :: rest, a, b, v, h, hb => by
    obtain ⟨hp, hn⟩ := h
    obtain ⟨hlt, hp'⟩ := List.pairwise_cons.1 hp
    simp only [Memory.write]
    by_cases h1 : a < k
    · by_cases hv : v = unlistedByte <;> simp [h1, hv, Memory.read, hb.symm]
    · by_cases h2 : a = k
      · subst h2
        by_cases hv : v = unlistedByte <;> simp [hv, Memory.read, hb.symm]
      · rw [if_neg h1, if_neg h2]
        simp only [Memory.read]
        rw [Memory.read_write_other rest a b v ⟨hp', fun c hc => hn c (by simp [hc])⟩ hb]

/-- What is listed after a write. -/
theorem Memory.mem_write : ∀ (m : Memory) (a : Nat) (v : Byte) (c : Host.Cell), c ∈ Memory.write m a v →
    c ∈ m ∨ (c = (a, v) ∧ v ≠ unlistedByte)
  | [], a, v, c, h => by
    by_cases hv : v = unlistedByte <;> simp_all [Memory.write]
  | (k, w) :: rest, a, v, c, h => by
    simp only [Memory.write] at h
    split at h
    · split at h
      · exact .inl h
      · rcases List.mem_cons.1 h with rfl | h
        · exact .inr ⟨rfl, ‹_›⟩
        · exact .inl h
    · split at h
      · split at h
        · exact .inl (List.mem_cons_of_mem _ h)
        · rcases List.mem_cons.1 h with rfl | h
          · exact .inr ⟨rfl, ‹_›⟩
          · exact .inl (List.mem_cons_of_mem _ h)
      · rcases List.mem_cons.1 h with rfl | h
        · exact .inl (by simp)
        · rcases Memory.mem_write rest a v c h with h | h
          · exact .inl (List.mem_cons_of_mem _ h)
          · exact .inr h

/-- A write keeps the canonical form. -/
theorem Memory.write_wf : ∀ (m : Memory) (a : Nat) (v : Byte), Memory.wf m → Memory.wf (Memory.write m a v)
  | [], a, v, _ => by
    by_cases hv : v = unlistedByte <;> simp [Memory.write, Memory.wf, hv]
  | (k, w) :: rest, a, v, h => by
    have hne : ∀ c ∈ Memory.write ((k, w) :: rest) a v, c.2 ≠ unlistedByte := fun c hc => by
      rcases Memory.mem_write _ a v c hc with hm | ⟨rfl, hv⟩
      · exact h.2 c hm
      · exact hv
    refine ⟨?_, hne⟩
    obtain ⟨hp, hn⟩ := h
    obtain ⟨hlt, hp'⟩ := List.pairwise_cons.1 hp
    have hw := (Memory.write_wf rest a v ⟨hp', fun c hc => hn c (by simp [hc])⟩).1
    simp only [Memory.write]
    split
    · rename_i h1
      split
      · exact hp
      · refine List.pairwise_cons.2 ⟨fun c hc => ?_, hp⟩
        rcases List.mem_cons.1 hc with rfl | hc
        · exact h1
        · exact Nat.lt_trans h1 (hlt c hc)
    · rename_i h1
      split
      · rename_i h2
        subst h2
        split
        · exact hp'
        · exact List.pairwise_cons.2 ⟨hlt, hp'⟩
      · rename_i h2
        refine List.pairwise_cons.2 ⟨fun c hc => ?_, hw⟩
        rcases Memory.mem_write rest a v c hc with hc | ⟨rfl, _⟩
        · exact hlt c hc
        · show k < a
          omega

/-- A read answers the byte of a declared address. -/
theorem memRead_ok {s : State} {a : Addr} {b : Byte} (h : memRead s a = .ok b) :
    declared s a = true ∧ b = Memory.read s.mem a.toNat := by
  unfold memRead at h
  split at h
  · cases h; exact ⟨‹_›, rfl⟩
  · cases h

/-- A write to a declared address changes that byte of the memory and nothing else. -/
theorem memWrite_ok {s t : State} {a : Addr} {v : Byte} (h : memWrite a v s = .ok t) :
    declared s a = true ∧ t = { s with mem := Memory.write s.mem a.toNat v } := by
  unfold memWrite at h
  split at h
  · cases h; exact ⟨‹_›, rfl⟩
  · cases h

/-- A write keeps the canonical form of the state's memory. -/
theorem memWrite_wf {s t : State} {a : Addr} {v : Byte} (h : memWrite a v s = .ok t) (hw : Memory.wf s.mem) :
    Memory.wf t.mem := by
  obtain ⟨_, rfl⟩ := memWrite_ok h
  exact Memory.write_wf _ _ _ hw

end Sys2Proof.Machine
end

