-- ==== Sys2Proof/Laws/State.lean ====
section
/-! SUPPORT. One lemma per field per named update of the state, each true by rfl. -/

namespace Sys2Proof.Machine

variable (s : State)

/-! ### refuse -/

@[simp] theorem refuse_rtc (r : Refusal) : (s.refuse r).rtc = s.rtc := rfl
@[simp] theorem refuse_rtcd (r : Refusal) : (s.refuse r).rtcd = s.rtcd := rfl
@[simp] theorem refuse_m (r : Refusal) : (s.refuse r).m = s.m := rfl
@[simp] theorem refuse_sl (r : Refusal) : (s.refuse r).sl = s.sl := rfl
@[simp] theorem refuse_i2cd (r : Refusal) : (s.refuse r).i2cd = s.i2cd := rfl
@[simp] theorem refuse_trace (r : Refusal) : (s.refuse r).trace = s.trace := rfl
@[simp] theorem refuse_dma (r : Refusal) : (s.refuse r).dma = s.dma := rfl
@[simp] theorem refuse_nvic (r : Refusal) : (s.refuse r).nvic = s.nvic := rfl
@[simp] theorem refuse_hnd (r : Refusal) : (s.refuse r).hnd = s.hnd := rfl
@[simp] theorem refuse_main (r : Refusal) : (s.refuse r).main = s.main := rfl
@[simp] theorem refuse_cblog (r : Refusal) : (s.refuse r).cblog = s.cblog := rfl
@[simp] theorem refuse_refused (r : Refusal) : (s.refuse r).refused = some r := rfl
@[simp] theorem refuse_fault (r : Refusal) : (s.refuse r).fault = s.fault := rfl
@[simp] theorem refuse_mem (r : Refusal) : (s.refuse r).mem = s.mem := rfl
@[simp] theorem refuse_regions (r : Refusal) : (s.refuse r).regions = s.regions := rfl
@[simp] theorem refuse_cfg (r : Refusal) : (s.refuse r).cfg = s.cfg := rfl
@[simp] theorem refuse_env (r : Refusal) : (s.refuse r).env = s.env := rfl

/-! ### markFault -/

@[simp] theorem markFault_rtc (f : Fault) : (s.markFault f).rtc = s.rtc := rfl
@[simp] theorem markFault_rtcd (f : Fault) : (s.markFault f).rtcd = s.rtcd := rfl
@[simp] theorem markFault_m (f : Fault) : (s.markFault f).m = s.m := rfl
@[simp] theorem markFault_sl (f : Fault) : (s.markFault f).sl = s.sl := rfl
@[simp] theorem markFault_i2cd (f : Fault) : (s.markFault f).i2cd = s.i2cd := rfl
@[simp] theorem markFault_trace (f : Fault) : (s.markFault f).trace = s.trace := rfl
@[simp] theorem markFault_dma (f : Fault) : (s.markFault f).dma = s.dma := rfl
@[simp] theorem markFault_nvic (f : Fault) : (s.markFault f).nvic = s.nvic := rfl
@[simp] theorem markFault_hnd (f : Fault) : (s.markFault f).hnd = s.hnd := rfl
@[simp] theorem markFault_main (f : Fault) : (s.markFault f).main = s.main := rfl
@[simp] theorem markFault_cblog (f : Fault) : (s.markFault f).cblog = s.cblog := rfl
@[simp] theorem markFault_refused (f : Fault) : (s.markFault f).refused = s.refused := rfl
@[simp] theorem markFault_fault (f : Fault) : (s.markFault f).fault = some f := rfl
@[simp] theorem markFault_mem (f : Fault) : (s.markFault f).mem = s.mem := rfl
@[simp] theorem markFault_regions (f : Fault) : (s.markFault f).regions = s.regions := rfl
@[simp] theorem markFault_cfg (f : Fault) : (s.markFault f).cfg = s.cfg := rfl
@[simp] theorem markFault_env (f : Fault) : (s.markFault f).env = s.env := rfl

/-! ### setPosted -/

@[simp] theorem setPosted_rtc (g : Group) (v : Option U16) :
    (s.setPosted g v).rtc = { s.rtc with posted := s.rtc.posted.set g v } := rfl
@[simp] theorem setPosted_rtcd (g : Group) (v : Option U16) : (s.setPosted g v).rtcd = s.rtcd := rfl
@[simp] theorem setPosted_m (g : Group) (v : Option U16) : (s.setPosted g v).m = s.m := rfl
@[simp] theorem setPosted_sl (g : Group) (v : Option U16) : (s.setPosted g v).sl = s.sl := rfl
@[simp] theorem setPosted_i2cd (g : Group) (v : Option U16) : (s.setPosted g v).i2cd = s.i2cd := rfl
@[simp] theorem setPosted_trace (g : Group) (v : Option U16) : (s.setPosted g v).trace = s.trace := rfl
@[simp] theorem setPosted_dma (g : Group) (v : Option U16) : (s.setPosted g v).dma = s.dma := rfl
@[simp] theorem setPosted_nvic (g : Group) (v : Option U16) : (s.setPosted g v).nvic = s.nvic := rfl
@[simp] theorem setPosted_hnd (g : Group) (v : Option U16) : (s.setPosted g v).hnd = s.hnd := rfl
@[simp] theorem setPosted_main (g : Group) (v : Option U16) : (s.setPosted g v).main = s.main := rfl
@[simp] theorem setPosted_cblog (g : Group) (v : Option U16) : (s.setPosted g v).cblog = s.cblog := rfl
@[simp] theorem setPosted_refused (g : Group) (v : Option U16) : (s.setPosted g v).refused = s.refused := rfl
@[simp] theorem setPosted_fault (g : Group) (v : Option U16) : (s.setPosted g v).fault = s.fault := rfl
@[simp] theorem setPosted_mem (g : Group) (v : Option U16) : (s.setPosted g v).mem = s.mem := rfl
@[simp] theorem setPosted_regions (g : Group) (v : Option U16) : (s.setPosted g v).regions = s.regions := rfl
@[simp] theorem setPosted_cfg (g : Group) (v : Option U16) : (s.setPosted g v).cfg = s.cfg := rfl
@[simp] theorem setPosted_env (g : Group) (v : Option U16) : (s.setPosted g v).env = s.env := rfl

/-! ### setInflight -/

@[simp] theorem setInflight_rtc (g : Group) (v : Option U16) :
    (s.setInflight g v).rtc = { s.rtc with inflight := s.rtc.inflight.set g v } := rfl
@[simp] theorem setInflight_rtcd (g : Group) (v : Option U16) : (s.setInflight g v).rtcd = s.rtcd := rfl
@[simp] theorem setInflight_m (g : Group) (v : Option U16) : (s.setInflight g v).m = s.m := rfl
@[simp] theorem setInflight_sl (g : Group) (v : Option U16) : (s.setInflight g v).sl = s.sl := rfl
@[simp] theorem setInflight_i2cd (g : Group) (v : Option U16) : (s.setInflight g v).i2cd = s.i2cd := rfl
@[simp] theorem setInflight_trace (g : Group) (v : Option U16) : (s.setInflight g v).trace = s.trace := rfl
@[simp] theorem setInflight_dma (g : Group) (v : Option U16) : (s.setInflight g v).dma = s.dma := rfl
@[simp] theorem setInflight_nvic (g : Group) (v : Option U16) : (s.setInflight g v).nvic = s.nvic := rfl
@[simp] theorem setInflight_hnd (g : Group) (v : Option U16) : (s.setInflight g v).hnd = s.hnd := rfl
@[simp] theorem setInflight_main (g : Group) (v : Option U16) : (s.setInflight g v).main = s.main := rfl
@[simp] theorem setInflight_cblog (g : Group) (v : Option U16) : (s.setInflight g v).cblog = s.cblog := rfl
@[simp] theorem setInflight_refused (g : Group) (v : Option U16) : (s.setInflight g v).refused = s.refused := rfl
@[simp] theorem setInflight_fault (g : Group) (v : Option U16) : (s.setInflight g v).fault = s.fault := rfl
@[simp] theorem setInflight_mem (g : Group) (v : Option U16) : (s.setInflight g v).mem = s.mem := rfl
@[simp] theorem setInflight_regions (g : Group) (v : Option U16) : (s.setInflight g v).regions = s.regions := rfl
@[simp] theorem setInflight_cfg (g : Group) (v : Option U16) : (s.setInflight g v).cfg = s.cfg := rfl
@[simp] theorem setInflight_env (g : Group) (v : Option U16) : (s.setInflight g v).env = s.env := rfl

/-! ### setChannel -/

@[simp] theorem setChannel_rtc (c : Chan) (v : Channel) : (s.setChannel c v).rtc = s.rtc := rfl
@[simp] theorem setChannel_rtcd (c : Chan) (v : Channel) : (s.setChannel c v).rtcd = s.rtcd := rfl
@[simp] theorem setChannel_m (c : Chan) (v : Channel) : (s.setChannel c v).m = s.m := rfl
@[simp] theorem setChannel_sl (c : Chan) (v : Channel) : (s.setChannel c v).sl = s.sl := rfl
@[simp] theorem setChannel_i2cd (c : Chan) (v : Channel) : (s.setChannel c v).i2cd = s.i2cd := rfl
@[simp] theorem setChannel_trace (c : Chan) (v : Channel) : (s.setChannel c v).trace = s.trace := rfl
@[simp] theorem setChannel_dma (c : Chan) (v : Channel) : (s.setChannel c v).dma = s.dma.set c v := rfl
@[simp] theorem setChannel_nvic (c : Chan) (v : Channel) : (s.setChannel c v).nvic = s.nvic := rfl
@[simp] theorem setChannel_hnd (c : Chan) (v : Channel) : (s.setChannel c v).hnd = s.hnd := rfl
@[simp] theorem setChannel_main (c : Chan) (v : Channel) : (s.setChannel c v).main = s.main := rfl
@[simp] theorem setChannel_cblog (c : Chan) (v : Channel) : (s.setChannel c v).cblog = s.cblog := rfl
@[simp] theorem setChannel_refused (c : Chan) (v : Channel) : (s.setChannel c v).refused = s.refused := rfl
@[simp] theorem setChannel_fault (c : Chan) (v : Channel) : (s.setChannel c v).fault = s.fault := rfl
@[simp] theorem setChannel_mem (c : Chan) (v : Channel) : (s.setChannel c v).mem = s.mem := rfl
@[simp] theorem setChannel_regions (c : Chan) (v : Channel) : (s.setChannel c v).regions = s.regions := rfl
@[simp] theorem setChannel_cfg (c : Chan) (v : Channel) : (s.setChannel c v).cfg = s.cfg := rfl
@[simp] theorem setChannel_env (c : Chan) (v : Channel) : (s.setChannel c v).env = s.env := rfl

/-! ### setLine -/

@[simp] theorem setLine_rtc (l : Line) (b : Bool) : (s.setLine l b).rtc = s.rtc := rfl
@[simp] theorem setLine_rtcd (l : Line) (b : Bool) : (s.setLine l b).rtcd = s.rtcd := rfl
@[simp] theorem setLine_m (l : Line) (b : Bool) : (s.setLine l b).m = s.m := rfl
@[simp] theorem setLine_sl (l : Line) (b : Bool) : (s.setLine l b).sl = s.sl := rfl
@[simp] theorem setLine_i2cd (l : Line) (b : Bool) : (s.setLine l b).i2cd = s.i2cd := rfl
@[simp] theorem setLine_trace (l : Line) (b : Bool) : (s.setLine l b).trace = s.trace := rfl
@[simp] theorem setLine_dma (l : Line) (b : Bool) : (s.setLine l b).dma = s.dma := rfl
@[simp] theorem setLine_nvic (l : Line) (b : Bool) : (s.setLine l b).nvic = s.nvic.set l b := rfl
@[simp] theorem setLine_hnd (l : Line) (b : Bool) : (s.setLine l b).hnd = s.hnd := rfl
@[simp] theorem setLine_main (l : Line) (b : Bool) : (s.setLine l b).main = s.main := rfl
@[simp] theorem setLine_cblog (l : Line) (b : Bool) : (s.setLine l b).cblog = s.cblog := rfl
@[simp] theorem setLine_refused (l : Line) (b : Bool) : (s.setLine l b).refused = s.refused := rfl
@[simp] theorem setLine_fault (l : Line) (b : Bool) : (s.setLine l b).fault = s.fault := rfl
@[simp] theorem setLine_mem (l : Line) (b : Bool) : (s.setLine l b).mem = s.mem := rfl
@[simp] theorem setLine_regions (l : Line) (b : Bool) : (s.setLine l b).regions = s.regions := rfl
@[simp] theorem setLine_cfg (l : Line) (b : Bool) : (s.setLine l b).cfg = s.cfg := rfl
@[simp] theorem setLine_env (l : Line) (b : Bool) : (s.setLine l b).env = s.env := rfl

/-! ### emit -/

@[simp] theorem emit_rtc (es : List BusEvent) : (emit es s).rtc = s.rtc := rfl
@[simp] theorem emit_rtcd (es : List BusEvent) : (emit es s).rtcd = s.rtcd := rfl
@[simp] theorem emit_m (es : List BusEvent) : (emit es s).m = s.m := rfl
@[simp] theorem emit_sl (es : List BusEvent) : (emit es s).sl = s.sl := rfl
@[simp] theorem emit_i2cd (es : List BusEvent) : (emit es s).i2cd = s.i2cd := rfl
@[simp] theorem emit_trace (es : List BusEvent) : (emit es s).trace = s.trace ++ es := rfl
@[simp] theorem emit_dma (es : List BusEvent) : (emit es s).dma = s.dma := rfl
@[simp] theorem emit_nvic (es : List BusEvent) : (emit es s).nvic = s.nvic := rfl
@[simp] theorem emit_hnd (es : List BusEvent) : (emit es s).hnd = s.hnd := rfl
@[simp] theorem emit_main (es : List BusEvent) : (emit es s).main = s.main := rfl
@[simp] theorem emit_cblog (es : List BusEvent) : (emit es s).cblog = s.cblog := rfl
@[simp] theorem emit_refused (es : List BusEvent) : (emit es s).refused = s.refused := rfl
@[simp] theorem emit_fault (es : List BusEvent) : (emit es s).fault = s.fault := rfl
@[simp] theorem emit_mem (es : List BusEvent) : (emit es s).mem = s.mem := rfl
@[simp] theorem emit_regions (es : List BusEvent) : (emit es s).regions = s.regions := rfl
@[simp] theorem emit_cfg (es : List BusEvent) : (emit es s).cfg = s.cfg := rfl
@[simp] theorem emit_env (es : List BusEvent) : (emit es s).env = s.env := rfl

/-! ### holdAt -/

@[simp] theorem holdAt_rtc (c : Await) (p : Point) : (s.holdAt c p).rtc = s.rtc := rfl
@[simp] theorem holdAt_rtcd (c : Await) (p : Point) : (s.holdAt c p).rtcd = s.rtcd := rfl
@[simp] theorem holdAt_m (c : Await) (p : Point) : (s.holdAt c p).m = s.m := rfl
@[simp] theorem holdAt_sl (c : Await) (p : Point) : (s.holdAt c p).sl = s.sl := rfl
@[simp] theorem holdAt_i2cd (c : Await) (p : Point) : (s.holdAt c p).i2cd = s.i2cd := rfl
@[simp] theorem holdAt_trace (c : Await) (p : Point) : (s.holdAt c p).trace = s.trace := rfl
@[simp] theorem holdAt_dma (c : Await) (p : Point) : (s.holdAt c p).dma = s.dma := rfl
@[simp] theorem holdAt_nvic (c : Await) (p : Point) : (s.holdAt c p).nvic = s.nvic := rfl
@[simp] theorem holdAt_hnd (c : Await) (p : Point) : (s.holdAt c p).hnd = s.hnd := rfl
@[simp] theorem holdAt_main (c : Await) (p : Point) : (s.holdAt c p).main = { s.main with k := .hold c p } := rfl
@[simp] theorem holdAt_cblog (c : Await) (p : Point) : (s.holdAt c p).cblog = s.cblog := rfl
@[simp] theorem holdAt_refused (c : Await) (p : Point) : (s.holdAt c p).refused = s.refused := rfl
@[simp] theorem holdAt_fault (c : Await) (p : Point) : (s.holdAt c p).fault = s.fault := rfl
@[simp] theorem holdAt_mem (c : Await) (p : Point) : (s.holdAt c p).mem = s.mem := rfl
@[simp] theorem holdAt_regions (c : Await) (p : Point) : (s.holdAt c p).regions = s.regions := rfl
@[simp] theorem holdAt_cfg (c : Await) (p : Point) : (s.holdAt c p).cfg = s.cfg := rfl
@[simp] theorem holdAt_env (c : Await) (p : Point) : (s.holdAt c p).env = s.env := rfl

/-! ### ret -/

@[simp] theorem ret_rtc (op : Byte) (code : ResultCode) (out : Outputs) : (ret op code out s).rtc = s.rtc := rfl
@[simp] theorem ret_rtcd (op : Byte) (code : ResultCode) (out : Outputs) : (ret op code out s).rtcd = s.rtcd := rfl
@[simp] theorem ret_m (op : Byte) (code : ResultCode) (out : Outputs) : (ret op code out s).m = s.m := rfl
@[simp] theorem ret_sl (op : Byte) (code : ResultCode) (out : Outputs) : (ret op code out s).sl = s.sl := rfl
@[simp] theorem ret_i2cd (op : Byte) (code : ResultCode) (out : Outputs) : (ret op code out s).i2cd = s.i2cd := rfl
@[simp] theorem ret_trace (op : Byte) (code : ResultCode) (out : Outputs) : (ret op code out s).trace = s.trace := rfl
@[simp] theorem ret_dma (op : Byte) (code : ResultCode) (out : Outputs) : (ret op code out s).dma = s.dma := rfl
@[simp] theorem ret_nvic (op : Byte) (code : ResultCode) (out : Outputs) : (ret op code out s).nvic = s.nvic := rfl
@[simp] theorem ret_hnd (op : Byte) (code : ResultCode) (out : Outputs) : (ret op code out s).hnd = s.hnd := rfl
@[simp] theorem ret_main (op : Byte) (code : ResultCode) (out : Outputs) :
    (ret op code out s).main = { s.main with
        pc := s.main.pc + 1, k := .start, results := s.main.results ++ [{ op, code, out }] } := rfl
@[simp] theorem ret_cblog (op : Byte) (code : ResultCode) (out : Outputs) : (ret op code out s).cblog = s.cblog := rfl
@[simp] theorem ret_refused (op : Byte) (code : ResultCode) (out : Outputs) :
    (ret op code out s).refused = s.refused := rfl
@[simp] theorem ret_fault (op : Byte) (code : ResultCode) (out : Outputs) : (ret op code out s).fault = s.fault := rfl
@[simp] theorem ret_mem (op : Byte) (code : ResultCode) (out : Outputs) : (ret op code out s).mem = s.mem := rfl
@[simp] theorem ret_regions (op : Byte) (code : ResultCode) (out : Outputs) :
    (ret op code out s).regions = s.regions := rfl
@[simp] theorem ret_cfg (op : Byte) (code : ResultCode) (out : Outputs) : (ret op code out s).cfg = s.cfg := rfl
@[simp] theorem ret_env (op : Byte) (code : ResultCode) (out : Outputs) : (ret op code out s).env = s.env := rfl

/-! ### endWait -/

@[simp] theorem endWait_rtc : (endWait s).rtc = s.rtc := rfl
@[simp] theorem endWait_rtcd : (endWait s).rtcd = s.rtcd := rfl
@[simp] theorem endWait_m : (endWait s).m = s.m := rfl
@[simp] theorem endWait_sl : (endWait s).sl = s.sl := rfl
@[simp] theorem endWait_i2cd : (endWait s).i2cd = { s.i2cd with sem := false, waitArmed := false } := rfl
@[simp] theorem endWait_trace : (endWait s).trace = s.trace := rfl
@[simp] theorem endWait_dma : (endWait s).dma = s.dma := rfl
@[simp] theorem endWait_nvic : (endWait s).nvic = s.nvic := rfl
@[simp] theorem endWait_hnd : (endWait s).hnd = s.hnd := rfl
@[simp] theorem endWait_main : (endWait s).main = s.main := rfl
@[simp] theorem endWait_cblog : (endWait s).cblog = s.cblog := rfl
@[simp] theorem endWait_refused : (endWait s).refused = s.refused := rfl
@[simp] theorem endWait_fault : (endWait s).fault = s.fault := rfl
@[simp] theorem endWait_mem : (endWait s).mem = s.mem := rfl
@[simp] theorem endWait_regions : (endWait s).regions = s.regions := rfl
@[simp] theorem endWait_cfg : (endWait s).cfg = s.cfg := rfl
@[simp] theorem endWait_env : (endWait s).env = s.env := rfl

/-! ### enterCritical -/

@[simp] theorem enterCritical_rtc : (enterCritical s).rtc = s.rtc := rfl
@[simp] theorem enterCritical_rtcd : (enterCritical s).rtcd = s.rtcd := rfl
@[simp] theorem enterCritical_m : (enterCritical s).m = s.m := rfl
@[simp] theorem enterCritical_sl : (enterCritical s).sl = s.sl := rfl
@[simp] theorem enterCritical_i2cd : (enterCritical s).i2cd = s.i2cd := rfl
@[simp] theorem enterCritical_trace : (enterCritical s).trace = s.trace := rfl
@[simp] theorem enterCritical_dma : (enterCritical s).dma = s.dma := rfl
@[simp] theorem enterCritical_nvic : (enterCritical s).nvic = s.nvic := rfl
@[simp] theorem enterCritical_hnd : (enterCritical s).hnd = s.hnd := rfl
@[simp] theorem enterCritical_main : (enterCritical s).main = { s.main with crit := true } := rfl
@[simp] theorem enterCritical_cblog : (enterCritical s).cblog = s.cblog := rfl
@[simp] theorem enterCritical_refused : (enterCritical s).refused = s.refused := rfl
@[simp] theorem enterCritical_fault : (enterCritical s).fault = s.fault := rfl
@[simp] theorem enterCritical_mem : (enterCritical s).mem = s.mem := rfl
@[simp] theorem enterCritical_regions : (enterCritical s).regions = s.regions := rfl
@[simp] theorem enterCritical_cfg : (enterCritical s).cfg = s.cfg := rfl
@[simp] theorem enterCritical_env : (enterCritical s).env = s.env := rfl

/-! ### leaveCritical -/

@[simp] theorem leaveCritical_rtc : (leaveCritical s).rtc = s.rtc := rfl
@[simp] theorem leaveCritical_rtcd : (leaveCritical s).rtcd = s.rtcd := rfl
@[simp] theorem leaveCritical_m : (leaveCritical s).m = s.m := rfl
@[simp] theorem leaveCritical_sl : (leaveCritical s).sl = s.sl := rfl
@[simp] theorem leaveCritical_i2cd : (leaveCritical s).i2cd = s.i2cd := rfl
@[simp] theorem leaveCritical_trace : (leaveCritical s).trace = s.trace := rfl
@[simp] theorem leaveCritical_dma : (leaveCritical s).dma = s.dma := rfl
@[simp] theorem leaveCritical_nvic : (leaveCritical s).nvic = s.nvic := rfl
@[simp] theorem leaveCritical_hnd : (leaveCritical s).hnd = s.hnd := rfl
@[simp] theorem leaveCritical_main : (leaveCritical s).main = { s.main with crit := false } := rfl
@[simp] theorem leaveCritical_cblog : (leaveCritical s).cblog = s.cblog := rfl
@[simp] theorem leaveCritical_refused : (leaveCritical s).refused = s.refused := rfl
@[simp] theorem leaveCritical_fault : (leaveCritical s).fault = s.fault := rfl
@[simp] theorem leaveCritical_mem : (leaveCritical s).mem = s.mem := rfl
@[simp] theorem leaveCritical_regions : (leaveCritical s).regions = s.regions := rfl
@[simp] theorem leaveCritical_cfg : (leaveCritical s).cfg = s.cfg := rfl
@[simp] theorem leaveCritical_env : (leaveCritical s).env = s.env := rfl

/-! ### enterHandler -/

@[simp] theorem enterHandler_rtc (h : Handler) : (enterHandler h s).rtc = s.rtc := rfl
@[simp] theorem enterHandler_rtcd (h : Handler) : (enterHandler h s).rtcd = s.rtcd := rfl
@[simp] theorem enterHandler_m (h : Handler) : (enterHandler h s).m = s.m := rfl
@[simp] theorem enterHandler_sl (h : Handler) : (enterHandler h s).sl = s.sl := rfl
@[simp] theorem enterHandler_i2cd (h : Handler) : (enterHandler h s).i2cd = s.i2cd := rfl
@[simp] theorem enterHandler_trace (h : Handler) : (enterHandler h s).trace = s.trace := rfl
@[simp] theorem enterHandler_dma (h : Handler) : (enterHandler h s).dma = s.dma := rfl
@[simp] theorem enterHandler_nvic (h : Handler) : (enterHandler h s).nvic = s.nvic := rfl
@[simp] theorem enterHandler_hnd (h : Handler) :
    (enterHandler h s).hnd = some { handler := h, point := .start } := rfl
@[simp] theorem enterHandler_main (h : Handler) : (enterHandler h s).main = s.main := rfl
@[simp] theorem enterHandler_cblog (h : Handler) : (enterHandler h s).cblog = s.cblog := rfl
@[simp] theorem enterHandler_refused (h : Handler) : (enterHandler h s).refused = s.refused := rfl
@[simp] theorem enterHandler_fault (h : Handler) : (enterHandler h s).fault = s.fault := rfl
@[simp] theorem enterHandler_mem (h : Handler) : (enterHandler h s).mem = s.mem := rfl
@[simp] theorem enterHandler_regions (h : Handler) : (enterHandler h s).regions = s.regions := rfl
@[simp] theorem enterHandler_cfg (h : Handler) : (enterHandler h s).cfg = s.cfg := rfl
@[simp] theorem enterHandler_env (h : Handler) : (enterHandler h s).env = s.env := rfl

/-! ### leaveHandler -/

@[simp] theorem leaveHandler_rtc : (leaveHandler s).rtc = s.rtc := rfl
@[simp] theorem leaveHandler_rtcd : (leaveHandler s).rtcd = s.rtcd := rfl
@[simp] theorem leaveHandler_m : (leaveHandler s).m = s.m := rfl
@[simp] theorem leaveHandler_sl : (leaveHandler s).sl = s.sl := rfl
@[simp] theorem leaveHandler_i2cd : (leaveHandler s).i2cd = s.i2cd := rfl
@[simp] theorem leaveHandler_trace : (leaveHandler s).trace = s.trace := rfl
@[simp] theorem leaveHandler_dma : (leaveHandler s).dma = s.dma := rfl
@[simp] theorem leaveHandler_nvic : (leaveHandler s).nvic = s.nvic := rfl
@[simp] theorem leaveHandler_hnd : (leaveHandler s).hnd = none := rfl
@[simp] theorem leaveHandler_main : (leaveHandler s).main = s.main := rfl
@[simp] theorem leaveHandler_cblog : (leaveHandler s).cblog = s.cblog := rfl
@[simp] theorem leaveHandler_refused : (leaveHandler s).refused = s.refused := rfl
@[simp] theorem leaveHandler_fault : (leaveHandler s).fault = s.fault := rfl
@[simp] theorem leaveHandler_mem : (leaveHandler s).mem = s.mem := rfl
@[simp] theorem leaveHandler_regions : (leaveHandler s).regions = s.regions := rfl
@[simp] theorem leaveHandler_cfg : (leaveHandler s).cfg = s.cfg := rfl
@[simp] theorem leaveHandler_env : (leaveHandler s).env = s.env := rfl

/-! ### withSched -/

@[simp] theorem withSched_rtc (l : List Turn) : (s.withSched l).rtc = s.rtc := rfl
@[simp] theorem withSched_rtcd (l : List Turn) : (s.withSched l).rtcd = s.rtcd := rfl
@[simp] theorem withSched_m (l : List Turn) : (s.withSched l).m = s.m := rfl
@[simp] theorem withSched_sl (l : List Turn) : (s.withSched l).sl = s.sl := rfl
@[simp] theorem withSched_i2cd (l : List Turn) : (s.withSched l).i2cd = s.i2cd := rfl
@[simp] theorem withSched_trace (l : List Turn) : (s.withSched l).trace = s.trace := rfl
@[simp] theorem withSched_dma (l : List Turn) : (s.withSched l).dma = s.dma := rfl
@[simp] theorem withSched_nvic (l : List Turn) : (s.withSched l).nvic = s.nvic := rfl
@[simp] theorem withSched_hnd (l : List Turn) : (s.withSched l).hnd = s.hnd := rfl
@[simp] theorem withSched_main (l : List Turn) : (s.withSched l).main = s.main := rfl
@[simp] theorem withSched_cblog (l : List Turn) : (s.withSched l).cblog = s.cblog := rfl
@[simp] theorem withSched_refused (l : List Turn) : (s.withSched l).refused = s.refused := rfl
@[simp] theorem withSched_fault (l : List Turn) : (s.withSched l).fault = s.fault := rfl
@[simp] theorem withSched_mem (l : List Turn) : (s.withSched l).mem = s.mem := rfl
@[simp] theorem withSched_regions (l : List Turn) : (s.withSched l).regions = s.regions := rfl
@[simp] theorem withSched_cfg (l : List Turn) : (s.withSched l).cfg = s.cfg := rfl
@[simp] theorem withSched_env (l : List Turn) : (s.withSched l).env = { s.env with sched := l } := rfl

/-! ### resetMasterControl -/

@[simp] theorem resetMasterControl_rtc : (resetMasterControl s).rtc = s.rtc := rfl
@[simp] theorem resetMasterControl_rtcd : (resetMasterControl s).rtcd = s.rtcd := rfl
@[simp] theorem resetMasterControl_m :
    (resetMasterControl s).m = { s.m with en := s.cfg.mctlPorEn, ie := MasterIe.none, dmaTx := false, dmaRx := false } := rfl
@[simp] theorem resetMasterControl_sl : (resetMasterControl s).sl = s.sl := rfl
@[simp] theorem resetMasterControl_i2cd : (resetMasterControl s).i2cd = s.i2cd := rfl
@[simp] theorem resetMasterControl_trace : (resetMasterControl s).trace = s.trace := rfl
@[simp] theorem resetMasterControl_dma : (resetMasterControl s).dma = s.dma := rfl
@[simp] theorem resetMasterControl_nvic : (resetMasterControl s).nvic = s.nvic := rfl
@[simp] theorem resetMasterControl_hnd : (resetMasterControl s).hnd = s.hnd := rfl
@[simp] theorem resetMasterControl_main : (resetMasterControl s).main = s.main := rfl
@[simp] theorem resetMasterControl_cblog : (resetMasterControl s).cblog = s.cblog := rfl
@[simp] theorem resetMasterControl_refused : (resetMasterControl s).refused = s.refused := rfl
@[simp] theorem resetMasterControl_fault : (resetMasterControl s).fault = s.fault := rfl
@[simp] theorem resetMasterControl_mem : (resetMasterControl s).mem = s.mem := rfl
@[simp] theorem resetMasterControl_regions : (resetMasterControl s).regions = s.regions := rfl
@[simp] theorem resetMasterControl_cfg : (resetMasterControl s).cfg = s.cfg := rfl
@[simp] theorem resetMasterControl_env : (resetMasterControl s).env = s.env := rfl

/-! ### resetSlaveControl -/

@[simp] theorem resetSlaveControl_rtc : (resetSlaveControl s).rtc = s.rtc := rfl
@[simp] theorem resetSlaveControl_rtcd : (resetSlaveControl s).rtcd = s.rtcd := rfl
@[simp] theorem resetSlaveControl_m : (resetSlaveControl s).m = s.m := rfl
@[simp] theorem resetSlaveControl_sl :
    (resetSlaveControl s).sl = { s.sl with
        en := false, ie := SlaveIe.none, dmaTx := false, dmaRx := false, clockHold := false } := rfl
@[simp] theorem resetSlaveControl_i2cd : (resetSlaveControl s).i2cd = s.i2cd := rfl
@[simp] theorem resetSlaveControl_trace : (resetSlaveControl s).trace = s.trace := rfl
@[simp] theorem resetSlaveControl_dma : (resetSlaveControl s).dma = s.dma := rfl
@[simp] theorem resetSlaveControl_nvic : (resetSlaveControl s).nvic = s.nvic := rfl
@[simp] theorem resetSlaveControl_hnd : (resetSlaveControl s).hnd = s.hnd := rfl
@[simp] theorem resetSlaveControl_main : (resetSlaveControl s).main = s.main := rfl
@[simp] theorem resetSlaveControl_cblog : (resetSlaveControl s).cblog = s.cblog := rfl
@[simp] theorem resetSlaveControl_refused : (resetSlaveControl s).refused = s.refused := rfl
@[simp] theorem resetSlaveControl_fault : (resetSlaveControl s).fault = s.fault := rfl
@[simp] theorem resetSlaveControl_mem : (resetSlaveControl s).mem = s.mem := rfl
@[simp] theorem resetSlaveControl_regions : (resetSlaveControl s).regions = s.regions := rfl
@[simp] theorem resetSlaveControl_cfg : (resetSlaveControl s).cfg = s.cfg := rfl
@[simp] theorem resetSlaveControl_env : (resetSlaveControl s).env = s.env := rfl

end Sys2Proof.Machine
end

