-- ==== Sys2Proof/Laws/Ops.lean ====
section
/-! SUPPORT. What each shared operation can do, said once. -/

namespace Sys2Proof.Machine

/-! ### FIFOs -/

theorem pushFifo_ok {n : Nat} {f g : List Byte} {b : Byte} (h : pushFifo n f b = .ok g) :
    f.length < n ∧ g = f ++ [b] := by
  unfold pushFifo at h
  split at h
  · cases h; exact ⟨‹_›, rfl⟩
  · cases h

theorem popFifo_ok {f g : List Byte} {b : Byte} (h : popFifo f = .ok (b, g)) : f = b :: g := by
  cases f <;> cases h; rfl

theorem pushMTx_ok {b : Byte} {s t : State} (h : pushMTx b s = .ok t) :
    s.m.txf.length < s.cfg.fifoDepth ∧ t = { s with m := { s.m with txf := s.m.txf ++ [b] } } := by
  unfold pushMTx pushFifo at h
  by_cases hl : s.m.txf.length < s.cfg.fifoDepth <;> simp [hl] at h
  exact ⟨hl, h.symm⟩

theorem pushMRx_ok {b : Byte} {s t : State} (h : pushMRx b s = .ok t) :
    s.m.rxf.length < s.cfg.fifoDepth ∧ t = { s with m := { s.m with rxf := s.m.rxf ++ [b] } } := by
  unfold pushMRx pushFifo at h
  by_cases hl : s.m.rxf.length < s.cfg.fifoDepth <;> simp [hl] at h
  exact ⟨hl, h.symm⟩

theorem pushSTx_ok {b : Byte} {s t : State} (h : pushSTx b s = .ok t) :
    s.sl.txf.length < s.cfg.fifoDepth ∧ t = { s with sl := { s.sl with txf := s.sl.txf ++ [b] } } := by
  unfold pushSTx pushFifo at h
  by_cases hl : s.sl.txf.length < s.cfg.fifoDepth <;> simp [hl] at h
  exact ⟨hl, h.symm⟩

theorem pushSRx_ok {b : Byte} {s t : State} (h : pushSRx b s = .ok t) :
    s.sl.rxf.length < s.cfg.fifoDepth ∧ t = { s with sl := { s.sl with rxf := s.sl.rxf ++ [b] } } := by
  unfold pushSRx pushFifo at h
  by_cases hl : s.sl.rxf.length < s.cfg.fifoDepth <;> simp [hl] at h
  exact ⟨hl, h.symm⟩

theorem popMTx_ok {s : State} {p : Byte × State} (h : popMTx s = .ok p) :
    ∃ f, s.m.txf = p.1 :: f ∧ p.2 = { s with m := { s.m with txf := f } } := by
  unfold popMTx popFifo at h
  cases hf : s.m.txf with
  | nil => simp [hf] at h
  | cons b f => simp [hf] at h; subst h; exact ⟨f, rfl, rfl⟩

theorem popMRx_ok {s : State} {p : Byte × State} (h : popMRx s = .ok p) :
    ∃ f, s.m.rxf = p.1 :: f ∧ p.2 = { s with m := { s.m with rxf := f } } := by
  unfold popMRx popFifo at h
  cases hf : s.m.rxf with
  | nil => simp [hf] at h
  | cons b f => simp [hf] at h; subst h; exact ⟨f, rfl, rfl⟩

theorem popSTx_ok {s : State} {p : Byte × State} (h : popSTx s = .ok p) :
    ∃ f, s.sl.txf = p.1 :: f ∧ p.2 = { s with sl := { s.sl with txf := f } } := by
  unfold popSTx popFifo at h
  cases hf : s.sl.txf with
  | nil => simp [hf] at h
  | cons b f => simp [hf] at h; subst h; exact ⟨f, rfl, rfl⟩

theorem popSRx_ok {s : State} {p : Byte × State} (h : popSRx s = .ok p) :
    ∃ f, s.sl.rxf = p.1 :: f ∧ p.2 = { s with sl := { s.sl with rxf := f } } := by
  unfold popSRx popFifo at h
  cases hf : s.sl.rxf with
  | nil => simp [hf] at h
  | cons b f => simp [hf] at h; subst h; exact ⟨f, rfl, rfl⟩

/-! ### Draws and posts -/

/-- `t` is `s` but for the draws taken from its environment. -/
def DrawnFrom (s t : State) : Prop :=
  ∃ e : Env, t = { s with env := e } ∧ e.sched = s.env.sched ∧ e.eager = s.env.eager

theorem DrawnFrom.trans {s t u : State} : DrawnFrom s t → DrawnFrom t u → DrawnFrom s u := by
  rintro ⟨e, rfl, hs, hg⟩ ⟨f, rfl, hs', hg'⟩
  exact ⟨f, rfl, hs'.trans hs, hg'.trans hg⟩

/-- A draw changes the environment's tape or its counter, and nothing else. -/
theorem drawNat_state (s : State) : DrawnFrom s (drawNat s).2 := by
  unfold drawNat
  split
  · exact ⟨_, rfl, rfl, rfl⟩
  · exact ⟨_, rfl, rfl, rfl⟩

theorem drawBool_state (s : State) : DrawnFrom s (drawBool s).2 := drawNat_state s

theorem drawBits_state (w : Nat) (s : State) : DrawnFrom s (drawBits w s).2 := drawNat_state s

theorem drawRtc_state (s : State) : DrawnFrom s (drawRtc s).2 :=
  (((((drawBits_state 2 s).trans (drawBits_state 32 _)).trans (drawBits_state 32 _)).trans
    (drawBits_state 16 _)).trans (drawBits_state 16 _)).trans (drawBits_state 3 _)

/-- A post to a free posting buffer is kept, and changes nothing else. -/
theorem post_free {g : Group} {v : U16} {s : State} (h : s.rtc.posted.get g = none) :
    post g v s = s.setPosted g (some v) := by
  simp [post, h]

/-- What a post can do: the write is kept, or one of the two is lost, WERR is set and the group is noted. -/
theorem post_cases (g : Group) (v : U16) (s : State) :
    (s.rtc.posted.get g = none ∧ post g v s = s.setPosted g (some v)) ∨
      ∃ (e : Env) (p : PerGroup (Option U16)),
        (p = s.rtc.posted ∨ p = s.rtc.posted.set g (some v)) ∧ e.sched = s.env.sched ∧ e.eager = s.env.eager ∧
          post g v s =
            { s with
              env := e
              rtc :=
                { s.rtc with
                  posted := p, status := s.rtc.status ||| 0x0002#16, errSrc := BitVec.ofNat 3 (groupNumber g) } } := by
  cases h : s.rtc.posted.get g with
  | none => exact .inl ⟨rfl, post_free h⟩
  | some w =>
    right
    obtain ⟨e, he, hs, hg⟩ := drawBool_state s
    simp only [post, h, lostWrite]
    by_cases hd : (drawBool s).1 = true
    · exact ⟨e, _, .inr rfl, hs, hg, by simp [hd, he, State.setPosted]⟩
    · exact ⟨e, _, .inl rfl, hs, hg, by simp [hd, he]⟩

/-! ### Completion -/

/-- What a completion can do. -/
theorem signalCompletion_cases (r : I2CResult) (s : State) :
    (s.i2cd.complete = true ∧ signalCompletion r s = s) ∨
      (s.i2cd.complete = false ∧
        signalCompletion r s =
          { s with
            i2cd := { s.i2cd with result := r, complete := true, sem := s.i2cd.waitArmed || s.i2cd.sem }
            cblog := s.cblog ++ (s.i2cd.cb.map fun f => (f, resultArgument r)).toList }) := by
  unfold signalCompletion
  cases hc : s.i2cd.complete with
  | true => exact .inl ⟨rfl, rfl⟩
  | false =>
    refine .inr ⟨rfl, ?_⟩
    cases hcb : s.i2cd.cb <;> simp [callback]

/-! ### Steps of the agents -/

/-- What the end of a main-context step can be. -/
theorem finishMain_next {s u : State} {r : Run} (h : finishMain s r = .next u) :
    (∃ t, r = .ok t ∧ u = leaveCritical t) ∨ (∃ f, u = s.markFault f) ∨ (∃ c, u = s.refuse c) ∨
      u = s.holdAt .never .stall := by
  unfold finishMain at h
  split at h
  · cases h; exact .inl ⟨_, rfl, rfl⟩
  · cases h; exact .inr (.inl ⟨_, rfl⟩)
  · cases h; exact .inr (.inr (.inl ⟨_, rfl⟩))
  · cases h; exact .inr (.inr (.inr rfl))

/-- What a main-context step can be: nothing; the operation from its start or from its hold; a mark; or stuck. -/
theorem mainStep_next {start : State → Run} {resume : Point → State → Run} {s u : State}
    (h : mainStep start resume s = .next u) :
    u = s ∨ (∃ t, start (enterCritical s) = .ok t ∧ u = leaveCritical t) ∨
      (∃ p t, resume p (enterCritical s) = .ok t ∧ u = leaveCritical t) ∨ (∃ f, u = s.markFault f) ∨
      (∃ c, u = s.refuse c) ∨ u = s.holdAt .never .stall := by
  unfold mainStep at h
  split at h
  · cases h; exact .inl rfl
  · split at h
    · rcases finishMain_next h with ⟨t, ht, hu⟩ | h' | h' | h'
      · exact .inr (.inl ⟨t, ht, hu⟩)
      · exact .inr (.inr (.inr (.inl h')))
      · exact .inr (.inr (.inr (.inr (.inl h'))))
      · exact .inr (.inr (.inr (.inr (.inr h'))))
    · split at h
      · rcases finishMain_next h with ⟨t, ht, hu⟩ | h' | h' | h'
        · exact .inr (.inr (.inl ⟨_, t, ht, hu⟩))
        · exact .inr (.inr (.inr (.inl h')))
        · exact .inr (.inr (.inr (.inr (.inl h'))))
        · exact .inr (.inr (.inr (.inr (.inr h'))))
      · cases h; exact .inl rfl

/-- What an event can do: its effect when it is enabled, or a mark. -/
theorem eventStep_next {enabled : State → Bool} {effect : State → Run} {s u : State}
    (h : eventStep enabled effect s = .next u) :
    (enabled s = true ∧ effect s = .ok u) ∨ (∃ f, u = s.markFault f) ∨ (∃ c, u = s.refuse c) := by
  unfold eventStep finishAgent at h
  split at h
  · split at h
    · cases h; exact .inl ⟨‹_›, ‹_›⟩
    · cases h; exact .inr (.inl ⟨_, rfl⟩)
    · cases h; exact .inr (.inr ⟨_, rfl⟩)
    · cases h; exact .inr (.inr ⟨_, rfl⟩)
  · cases h; exact .inr (.inr ⟨_, rfl⟩)

/-- What a handler can do: its body, run and returned from, or a mark. -/
theorem handlerStep_next {h : Handler} {l : Line} {req : State → Bool} {body : State → Run} {s u : State}
    (hs : handlerStep h l req body s = .next u) :
    (handlerCanStart l (req s) s = true ∧ ∃ t, body (enterHandler h s) = .ok t ∧ u = leaveHandler t) ∨
      (∃ f, u = s.markFault f) ∨ (∃ c, u = s.refuse c) := by
  rcases eventStep_next hs with ⟨he, hb⟩ | h' | h'
  · refine .inl ⟨he, ?_⟩
    cases hb' : body (enterHandler h s) with
    | error e => simp [hb', Except.map] at hb
    | ok t => simp [hb', Except.map] at hb; exact ⟨t, rfl, hb.symm⟩
  · exact .inr (.inl h')
  · exact .inr (.inr h')

/-- What reading a program's word can do: the decoded operation's step, or a refusal. -/
theorem runOperation_next {w : List Byte} {s u : State} (h : runOperation w s = .next u) :
    (∃ i, decode w = .legal i ∧ isOperation i = true ∧ exec i s = .next u) ∨ ∃ r, u = s.refuse r := by
  unfold runOperation at h
  split at h
  · split at h
    · exact .inl ⟨_, ‹_›, ‹_›, h⟩
    · cases h; exact .inr ⟨_, rfl⟩
  · cases h; exact .inr ⟨_, rfl⟩

/-- What reading a schedule line's word can do: the decoded event's step, or a refusal. -/
theorem runEvent_next {w : List Byte} {s u : State} (h : runEvent w s = .next u) :
    (∃ i, decode w = .legal i ∧ isOperation i = false ∧ exec i s = .next u) ∨ ∃ r, u = s.refuse r := by
  unfold runEvent at h
  split at h
  · split at h
    · cases h; exact .inr ⟨_, rfl⟩
    · rename_i hop
      exact .inl ⟨_, ‹_›, by simpa using hop, h⟩
  · cases h; exact .inr ⟨_, rfl⟩

/-- What a step can do: the schedule may lose its first line, and then nothing more happens, a refusal is marked, one
instruction's meaning runs, or a reset happens. -/
theorem step_next {s u : State} (h : step s = .next u) :
    Unmarked s ∧ ∃ t, (t = s ∨ ∃ l, t = s.withSched l) ∧
      (u = t ∨ (∃ r, u = t.refuse r) ∨ (∃ i, exec i t = .next u) ∨ u = coreReset t ∨ u = porReset t) := by
  have aux : ∀ t, mainTurn t = .next u → u = t ∨ (∃ r, u = t.refuse r) ∨ ∃ i, exec i t = .next u := by
    intro t ht
    unfold mainTurn at ht
    split at ht
    · rcases runOperation_next ht with ⟨i, _, _, hi⟩ | hr
      · exact .inr (.inr ⟨i, hi⟩)
      · exact .inr (.inl hr)
    · cases ht; exact .inl rfl
  unfold step stopOrRun at h
  split at h
  · cases h
  · cases h
  · rename_i hf hr
    refine ⟨⟨hf, hr⟩, ?_⟩
    unfold runNext at h
    split at h
    · refine ⟨s, .inl rfl, ?_⟩
      rcases runOperation_next h with ⟨i, _, _, hi⟩ | hr
      · exact .inr (.inr (.inl ⟨i, hi⟩))
      · exact .inr (.inl hr)
    · split at h
      · refine ⟨s, .inl rfl, ?_⟩
        rcases aux s h with h | h | h
        · exact .inl h
        · exact .inr (.inl h)
        · exact .inr (.inr (.inl h))
      · rename_i t rest _
        refine ⟨s.withSched rest, .inr ⟨rest, rfl⟩, ?_⟩
        cases t with
        | main =>
          rcases aux _ h with h | h | h
          · exact .inl h
          · exact .inr (.inl h)
          · exact .inr (.inr (.inl h))
        | event w =>
          rcases runEvent_next h with ⟨i, _, _, hi⟩ | hr
          · exact .inr (.inr (.inl ⟨i, hi⟩))
          · exact .inr (.inl hr)
        | coreReset => cases h; exact .inr (.inr (.inr (.inl rfl)))
        | por => cases h; exact .inr (.inr (.inr (.inr rfl)))

end Sys2Proof.Machine
end

