-- ==== Sys2Proof/Laws/PerInstr.lean ====
section
/-! SUPPORT. One law for each instruction: its word is legal and has the length of its format. -/

namespace Sys2Proof.Laws

/-- The word of `i` is legal, and it is as long as its format says (30_encoding.md R141, R142, R149). -/
def Encoding.Statement (i : Instr) : Prop :=
  wordLegal (encode i) = true ∧ (formatOf (opcodeOf i).toNat).map formatLength = some (encode i).length

theorem Encoding.rtcInit (id : Byte) : Encoding.Statement (.rtcInit id) :=
  ⟨rfl, rfl⟩

theorem Encoding.rtcUnInit (h : Byte) : Encoding.Statement (.rtcUnInit h) :=
  ⟨rfl, rfl⟩

theorem Encoding.rtcClearFailSafe : Encoding.Statement (.rtcClearFailSafe) :=
  ⟨rfl, rfl⟩

theorem Encoding.rtcEnableDevice (h : Byte) (b : Bool) : Encoding.Statement (.rtcEnableDevice h b) :=
  by cases b <;> exact ⟨rfl, rfl⟩

theorem Encoding.rtcEnableAlarm (h : Byte) (b : Bool) : Encoding.Statement (.rtcEnableAlarm h b) :=
  by cases b <;> exact ⟨rfl, rfl⟩

theorem Encoding.rtcEnableTrim (h : Byte) (b : Bool) : Encoding.Statement (.rtcEnableTrim h b) :=
  by cases b <;> exact ⟨rfl, rfl⟩

theorem Encoding.rtcEnableLcdUpdate (h : Byte) (b : Bool) : Encoding.Statement (.rtcEnableLcdUpdate h b) :=
  by cases b <;> exact ⟨rfl, rfl⟩

theorem Encoding.rtcEnableInterrupts (h : Byte) (mask : U16) (b : Bool) :
    Encoding.Statement (.rtcEnableInterrupts h mask b) :=
  by cases b <;> exact ⟨rfl, rfl⟩

theorem Encoding.rtcEnableSafeWrites (h : Byte) (b : Bool) : Encoding.Statement (.rtcEnableSafeWrites h b) :=
  by cases b <;> exact ⟨rfl, rfl⟩

theorem Encoding.rtcGetCount (h : Byte) : Encoding.Statement (.rtcGetCount h) :=
  ⟨rfl, rfl⟩

theorem Encoding.rtcSetCount (h : Byte) (v : U32) : Encoding.Statement (.rtcSetCount h v) :=
  ⟨rfl, rfl⟩

theorem Encoding.rtcGetAlarm (h : Byte) : Encoding.Statement (.rtcGetAlarm h) :=
  ⟨rfl, rfl⟩

theorem Encoding.rtcSetAlarm (h : Byte) (v : U32) : Encoding.Statement (.rtcSetAlarm h v) :=
  ⟨rfl, rfl⟩

theorem Encoding.rtcGetTrim (h : Byte) : Encoding.Statement (.rtcGetTrim h) :=
  ⟨rfl, rfl⟩

theorem Encoding.rtcSetTrim (h : Byte) (v : U16) : Encoding.Statement (.rtcSetTrim h v) :=
  ⟨rfl, rfl⟩

theorem Encoding.rtcGetInterruptStatus (h : Byte) : Encoding.Statement (.rtcGetInterruptStatus h) :=
  ⟨rfl, rfl⟩

theorem Encoding.rtcClearInterruptStatus (h : Byte) (mask : U16) :
    Encoding.Statement (.rtcClearInterruptStatus h mask) :=
  ⟨rfl, rfl⟩

theorem Encoding.rtcGetWritePendStatus (h : Byte) : Encoding.Statement (.rtcGetWritePendStatus h) :=
  ⟨rfl, rfl⟩

theorem Encoding.rtcGetWriteSyncStatus (h : Byte) : Encoding.Statement (.rtcGetWriteSyncStatus h) :=
  ⟨rfl, rfl⟩

theorem Encoding.rtcGetWriteErrorSource (h : Byte) : Encoding.Statement (.rtcGetWriteErrorSource h) :=
  ⟨rfl, rfl⟩

theorem Encoding.rtcSynchronizeAllWrites (h : Byte) : Encoding.Statement (.rtcSynchronizeAllWrites h) :=
  ⟨rfl, rfl⟩

theorem Encoding.rtcRegisterCallback (h : Byte) (cb : Byte) (watch : U16) :
    Encoding.Statement (.rtcRegisterCallback h cb watch) :=
  ⟨rfl, rfl⟩

theorem Encoding.rtcAccept (g : Group) : Encoding.Statement (.rtcAccept g) :=
  by cases g <;> exact ⟨rfl, rfl⟩

theorem Encoding.rtcCommit (g : Group) : Encoding.Statement (.rtcCommit g) :=
  by cases g <;> exact ⟨rfl, rfl⟩

theorem Encoding.rtcSecond : Encoding.Statement (.rtcSecond) :=
  ⟨rfl, rfl⟩

theorem Encoding.rtcFailsafeLatch : Encoding.Statement (.rtcFailsafeLatch) :=
  ⟨rfl, rfl⟩

theorem Encoding.i2cMasterInit (id : Byte) : Encoding.Statement (.i2cMasterInit id) :=
  ⟨rfl, rfl⟩

theorem Encoding.i2cSlaveInit (id : Byte) : Encoding.Statement (.i2cSlaveInit id) :=
  ⟨rfl, rfl⟩

theorem Encoding.i2cUnInit (h : Byte) : Encoding.Statement (.i2cUnInit h) :=
  ⟨rfl, rfl⟩

theorem Encoding.i2cSetBlockingMode (h : Byte) (b : Bool) : Encoding.Statement (.i2cSetBlockingMode h b) :=
  by cases b <;> exact ⟨rfl, rfl⟩

theorem Encoding.i2cSetDmaMode (h : Byte) (b : Bool) : Encoding.Statement (.i2cSetDmaMode h b) :=
  by cases b <;> exact ⟨rfl, rfl⟩

theorem Encoding.i2cSetSlaveAddress (h : Byte) (v : U16) : Encoding.Statement (.i2cSetSlaveAddress h v) :=
  ⟨rfl, rfl⟩

theorem Encoding.i2cSetTenBitAddressing (h : Byte) (b : Bool) :
    Encoding.Statement (.i2cSetTenBitAddressing h b) :=
  by cases b <;> exact ⟨rfl, rfl⟩

theorem Encoding.i2cSetClockStretch (h : Byte) (b : Bool) : Encoding.Statement (.i2cSetClockStretch h b) :=
  by cases b <;> exact ⟨rfl, rfl⟩

theorem Encoding.i2cMasterTransmit (h : Byte) (sid : U16) (daddr : U32) (daw : Byte) (buf : Addr) (size : U16) (rs : Bool) :
    Encoding.Statement (.i2cMasterTransmit h sid daddr daw buf size rs) :=
  by cases rs <;> exact ⟨rfl, rfl⟩

theorem Encoding.i2cMasterReceive (h : Byte) (sid : U16) (daddr : U32) (daw : Byte) (buf : Addr) (size : U16) (rs : Bool) :
    Encoding.Statement (.i2cMasterReceive h sid daddr daw buf size rs) :=
  by cases rs <;> exact ⟨rfl, rfl⟩

theorem Encoding.i2cSlaveTransmit (h : Byte) (buf : Addr) (size : U16) :
    Encoding.Statement (.i2cSlaveTransmit h buf size) :=
  ⟨rfl, rfl⟩

theorem Encoding.i2cSlaveReceive (h : Byte) (buf : Addr) (size : U16) :
    Encoding.Statement (.i2cSlaveReceive h buf size) :=
  ⟨rfl, rfl⟩

theorem Encoding.i2cGetGeneralCall (h : Byte) : Encoding.Statement (.i2cGetGeneralCall h) :=
  ⟨rfl, rfl⟩

theorem Encoding.i2cGetStatus (h : Byte) : Encoding.Statement (.i2cGetStatus h) :=
  ⟨rfl, rfl⟩

theorem Encoding.i2cRegisterCallback (h : Byte) (cb : Byte) : Encoding.Statement (.i2cRegisterCallback h cb) :=
  ⟨rfl, rfl⟩

theorem Encoding.mAddrAck : Encoding.Statement (.mAddrAck) :=
  ⟨rfl, rfl⟩

theorem Encoding.mAddrNack : Encoding.Statement (.mAddrNack) :=
  ⟨rfl, rfl⟩

theorem Encoding.mTxByteAck : Encoding.Statement (.mTxByteAck) :=
  ⟨rfl, rfl⟩

theorem Encoding.mTxByteNack : Encoding.Statement (.mTxByteNack) :=
  ⟨rfl, rfl⟩

theorem Encoding.mTxEnd : Encoding.Statement (.mTxEnd) :=
  ⟨rfl, rfl⟩

theorem Encoding.mRxByte (b : Byte) : Encoding.Statement (.mRxByte b) :=
  ⟨rfl, rfl⟩

theorem Encoding.mRxEnd : Encoding.Statement (.mRxEnd) :=
  ⟨rfl, rfl⟩

theorem Encoding.mAlost : Encoding.Statement (.mAlost) :=
  ⟨rfl, rfl⟩

theorem Encoding.sAddrMatch (d : Dir) : Encoding.Statement (.sAddrMatch d) :=
  by cases d <;> exact ⟨rfl, rfl⟩

theorem Encoding.sRxByte (b : Byte) : Encoding.Statement (.sRxByte b) :=
  ⟨rfl, rfl⟩

theorem Encoding.sTxByte : Encoding.Statement (.sTxByte) :=
  ⟨rfl, rfl⟩

theorem Encoding.sTxUnderflow : Encoding.Statement (.sTxUnderflow) :=
  ⟨rfl, rfl⟩

theorem Encoding.sRepstart (d : Dir) : Encoding.Statement (.sRepstart d) :=
  by cases d <;> exact ⟨rfl, rfl⟩

theorem Encoding.sStop : Encoding.Statement (.sStop) :=
  ⟨rfl, rfl⟩

theorem Encoding.sGcall (b : Byte) : Encoding.Statement (.sGcall b) :=
  ⟨rfl, rfl⟩

theorem Encoding.rtcIsr : Encoding.Statement (.rtcIsr) :=
  ⟨rfl, rfl⟩

theorem Encoding.i2cmIsr : Encoding.Statement (.i2cmIsr) :=
  ⟨rfl, rfl⟩

theorem Encoding.i2csIsr : Encoding.Statement (.i2csIsr) :=
  ⟨rfl, rfl⟩

theorem Encoding.dmaIsr (c : Chan) : Encoding.Statement (.dmaIsr c) :=
  by cases c <;> exact ⟨rfl, rfl⟩

theorem Encoding.dmaXfer (c : Chan) : Encoding.Statement (.dmaXfer c) :=
  by cases c <;> exact ⟨rfl, rfl⟩

end Sys2Proof.Laws
end

