-- ==== Sys2Proof/Tests/Slice0.lean ====
section
/-! SUPPORT. The model's own tests, each on fixed values: ill-formed words and terms refused, words written out from the
spec's formats decoded, single steps whose results are those of 95_test_vectors.md, and for each obligation with
hypotheses a state that meets them. -/

namespace Sys2Proof.Tests

open Sys2Proof.Machine Sys2Proof.Cert

/-! ### Helpers -/

/-- A word from its bytes as numbers. -/
def bytes (l : List Nat) : List Byte := l.map (BitVec.ofNat 8)

/-- What `f` reads in the next state of one instruction. -/
def after {α : Type} (i : Instr) (s : State) (f : State → α) : Option α :=
  match exec i s with
  | .next t => some (f t)
  | _ => none

/-- The code of the last result record. -/
def lastCode (s : State) : Option ResultCode := s.main.results.getLast?.map ResultRecord.code

/-- The value of the last result record. -/
def lastValue (s : State) : Option U32 := s.main.results.getLast?.bind fun r => r.out.value

/-- The code and value of an RTC operation that succeeded. -/
def rtcOk : Option ResultCode := some (.rtc .success)

/-- The code of an I2C operation that succeeded. -/
def i2cOk : Option ResultCode := some (.i2c .success)

/-! ### Start states (95_test_vectors.md 0.2) -/

/-- S_RUN. -/
def sRun : State :=
  { State.reset with
    rtc := { State.reset.rtc with oscOn := true, control := 0x0001#16, status := 0x0000#16, count := 0x00000100#32 } }

/-- S_INIT. -/
def sInit : State :=
  { sRun with rtcd := { sRun.rtcd with initialized := true }, nvic := { sRun.nvic with rtc := true } }

/-- S_FS. -/
def sFs : State :=
  { sInit with rtc := { sInit.rtc with control := 0x0000#16, status := 0x0004#16, count := 0xDEADBEEF#32 } }

/-- S_INIT with the given RTC hardware. -/
def initRtc (f : RtcHw → RtcHw) : State := { sInit with rtc := f sInit.rtc }

/-- A buffer of AA BB CC DD at 0x20000000 and one of 8 bytes at 0x20000100 (95_test_vectors.md section 3). -/
def withBuffers (s : State) : State :=
  { s with
    mem := [(0x20000000, 0xAA#8), (0x20000001, 0xBB#8), (0x20000002, 0xCC#8), (0x20000003, 0xDD#8)]
    regions := [{ base := 0x20000000#32, size := 4 }, { base := 0x20000100#32, size := 8 }] }

/-- S_M. -/
def sM : State :=
  withBuffers
    { State.reset with
      i2cd := { I2cDriver.reset with mode := .master, blocking := true }
      m := { State.reset.m with en := true }
      nvic := { Nvic.reset with i2cm := true } }

/-- S_MNB. -/
def sMnb : State := { sM with i2cd := { sM.i2cd with blocking := false } }

/-- S_MDMA. -/
def sMdma : State :=
  { sMnb with
    i2cd := { sMnb.i2cd with dma := true, engine := .dma, dmaOwned := true }
    nvic := { sMnb.nvic with dmaM := true } }

/-- S_S. -/
def sS : State :=
  withBuffers
    { State.reset with
      i2cd := { I2cDriver.reset with mode := .slave, blocking := true, slaveId := 0x42#10 }
      nvic := { Nvic.reset with i2cs := true } }

/-- S_SNB. -/
def sSnb : State := { sS with i2cd := { sS.i2cd with blocking := false } }

/-- S_M with the given master hardware. -/
def masterWith (f : MasterHw → MasterHw) : State := { sM with m := f sM.m }

/-- S_SNB with the given slave hardware. -/
def slaveWith (f : SlaveHw → SlaveHw) : State := { sSnb with sl := f sSnb.sl }

/-- A master transfer of direction `d` in its data steps. -/
def inData (d : Dir) (m : MasterHw) : MasterHw := { m with busy := true, dir := d, phase := .data }

/-- A slave engine in a transfer of direction `d`. -/
def inTransfer (d : Dir) (h : SlaveHw) : SlaveHw := { h with en := true, busy := true, dir := d }

/-- The tape of the next draws. -/
def withTape (l : List Nat) (s : State) : State := { s with env := { s.env with tape := l } }

/-- The main context holding. -/
def holding (c : Await) (p : Point) (s : State) : State := { s with main := { s.main with k := .hold c p } }

/-! ### What is not well formed is refused (30_encoding.md R142, R145; vectors E-11 to E-21) -/

theorem smoke_bool_byte : wordLegal (bytes [0x03, 0x00, 0x02]) = false := by decide
theorem smoke_mask_bool_byte : wordLegal (bytes [0x07, 0x00, 0x03, 0x00, 0x02]) = false := by decide
theorem smoke_rs_byte : wordLegal (bytes [0x48, 0, 0x50, 0, 0, 0, 0, 0, 0, 0, 0, 0, 0x20, 1, 0, 0x02]) = false := by
  decide
theorem smoke_group_byte : wordLegal (bytes [0x20, 0x07]) = false := by decide
theorem smoke_channel_byte : wordLegal (bytes [0xA3, 0x03]) = false := by decide
theorem smoke_direction_byte : wordLegal (bytes [0x80, 0x02]) = false := by decide
theorem smoke_truncated : wordLegal (bytes [0x0A, 0x00, 0x02, 0x00, 0x01]) = false := by decide
theorem smoke_empty : wordLegal [] = false := by decide
theorem smoke_reserved :
    ([0x16, 0x1F, 0x24, 0x3F, 0x4F, 0x5F, 0x68, 0x87, 0xA4, 0xC1, 0xE0, 0xFF].all fun op =>
      !wordLegal (bytes [op])) = true := by
  decide
theorem smoke_decoder_refuses :
    ([[0x03, 0x00, 0x02], [0x20, 0x07], [0xA3, 0x03], [0x80, 0x02], [0x16], [0xFF], [0x00], []].all fun w =>
      match decode (bytes w) with
      | .illegal _ => true
      | .legal _ => false) = true := by
  decide
theorem smoke_event_in_program : programWellFormed [bytes [0x22], bytes [0x65, 0x11]] = false := by decide
theorem smoke_operation_in_schedule : eventLineWellFormed (bytes [0x02]) = false := by decide
theorem smoke_region : regionWellFormed 0xFFFFFFFF#32 2 = false := by decide
theorem smoke_trim_layout : trimLayoutWellFormed { magLo := 0, addBit := 2, ivlLo := 4 } = false := by decide
theorem smoke_trim_layout_range : trimLayoutWellFormed { magLo := 0, addBit := 3, ivlLo := 15 } = false := by decide
theorem smoke_fifo_depth : paramsWellFormed { defaultParams with fifoDepth := 0 } = false := by decide
theorem smoke_dma_max : paramsWellFormed { defaultParams with dmaMax := 0 } = false := by decide
theorem smoke_params : paramsWellFormed defaultParams = true := by decide
theorem smoke_program : programWellFormed [bytes [0x02], bytes [0x40, 0x00]] = true := by decide

/-! ### Decoding: every constructor's word, written out from 30_encoding.md R141 and R149 -/

theorem test_decode_rtc_lifecycle :
    decode (bytes [0x00, 0x00]) = .legal (.rtcInit 0x00#8) ∧ decode (bytes [0x01, 0x07]) = .legal (.rtcUnInit 0x07#8) ∧
    decode (bytes [0x02]) = .legal .rtcClearFailSafe ∧
    decode (bytes [0x08, 0x00, 0x00]) = .legal (.rtcEnableSafeWrites 0#8 false) ∧
    decode (bytes [0x14, 0x00]) = .legal (.rtcSynchronizeAllWrites 0#8) ∧
    decode (bytes [0x15, 0x00, 0x01, 0x02, 0x80]) = .legal (.rtcRegisterCallback 0#8 0x01#8 0x8002#16) := by
  decide
theorem test_decode_rtc_enables :
    decode (bytes [0x03, 0x00, 0x01]) = .legal (.rtcEnableDevice 0#8 true) ∧
    decode (bytes [0x04, 0x01, 0x00]) = .legal (.rtcEnableAlarm 1#8 false) ∧
    decode (bytes [0x05, 0x00, 0x01]) = .legal (.rtcEnableTrim 0#8 true) ∧
    decode (bytes [0x06, 0x00, 0x00]) = .legal (.rtcEnableLcdUpdate 0#8 false) ∧
    decode (bytes [0x07, 0x00, 0x03, 0x01, 0x01]) = .legal (.rtcEnableInterrupts 0#8 0x0103#16 true) := by
  decide
theorem test_decode_rtc_values :
    decode (bytes [0x0A, 0x00, 0x02, 0x00, 0x01, 0x80]) = .legal (.rtcSetCount 0#8 0x80010002#32) ∧
    decode (bytes [0x0C, 0x00, 0xEF, 0xCD, 0xAB, 0x89]) = .legal (.rtcSetAlarm 0#8 0x89ABCDEF#32) ∧
    decode (bytes [0x0E, 0x00, 0x1D, 0xFF]) = .legal (.rtcSetTrim 0#8 0xFF1D#16) ∧
    decode (bytes [0x10, 0x00, 0x04, 0x00]) = .legal (.rtcClearInterruptStatus 0#8 0x0004#16) := by
  decide
theorem test_decode_rtc_getters :
    decode (bytes [0x09, 0x00]) = .legal (.rtcGetCount 0#8) ∧ decode (bytes [0x0B, 0x00]) = .legal (.rtcGetAlarm 0#8) ∧
    decode (bytes [0x0D, 0x00]) = .legal (.rtcGetTrim 0#8) ∧
    decode (bytes [0x0F, 0x00]) = .legal (.rtcGetInterruptStatus 0#8) ∧
    decode (bytes [0x11, 0x00]) = .legal (.rtcGetWritePendStatus 0#8) ∧
    decode (bytes [0x12, 0x00]) = .legal (.rtcGetWriteSyncStatus 0#8) ∧
    decode (bytes [0x13, 0x00]) = .legal (.rtcGetWriteErrorSource 0#8) := by
  decide
theorem test_decode_rtc_events :
    decode (bytes [0x20, 0x01]) = .legal (.rtcAccept .status0) ∧ decode (bytes [0x20, 0x05]) = .legal (.rtcAccept .alarmHi) ∧
    decode (bytes [0x21, 0x00]) = .legal (.rtcCommit .control) ∧ decode (bytes [0x21, 0x06]) = .legal (.rtcCommit .trim) ∧
    decode (bytes [0x22]) = .legal .rtcSecond ∧ decode (bytes [0x23]) = .legal .rtcFailsafeLatch := by
  decide
theorem test_decode_i2c_configuration :
    decode (bytes [0x40, 0x00]) = .legal (.i2cMasterInit 0#8) ∧ decode (bytes [0x41, 0x01]) = .legal (.i2cSlaveInit 1#8) ∧
    decode (bytes [0x42, 0x00]) = .legal (.i2cUnInit 0#8) ∧
    decode (bytes [0x43, 0x00, 0x01]) = .legal (.i2cSetBlockingMode 0#8 true) ∧
    decode (bytes [0x44, 0x00, 0x01]) = .legal (.i2cSetDmaMode 0#8 true) ∧
    decode (bytes [0x45, 0x00, 0xFF, 0x03]) = .legal (.i2cSetSlaveAddress 0#8 0x03FF#16) ∧
    decode (bytes [0x46, 0x00, 0x00]) = .legal (.i2cSetTenBitAddressing 0#8 false) ∧
    decode (bytes [0x47, 0x00, 0x01]) = .legal (.i2cSetClockStretch 0#8 true) := by
  decide
theorem test_decode_i2c_transfers :
    decode (bytes [0x48, 0x00, 0xA5, 0x02, 0x34, 0x12, 0x00, 0x00, 0x02, 0x00, 0x00, 0x00, 0x20, 0x01, 0x00, 0x01]) =
      .legal (.i2cMasterTransmit 0#8 0x02A5#16 0x00001234#32 2#8 0x20000000#32 1#16 true) ∧
    decode (bytes [0x49, 0x00, 0x50, 0x00, 0x78, 0x56, 0x34, 0x12, 0x00, 0x00, 0x01, 0x00, 0x20, 0x01, 0x01, 0x00]) =
      .legal (.i2cMasterReceive 0#8 0x0050#16 0x12345678#32 0#8 0x20000100#32 257#16 false) ∧
    decode (bytes [0x4A, 0x00, 0x00, 0x03, 0x00, 0x20, 0x02, 0x00]) =
      .legal (.i2cSlaveTransmit 0#8 0x20000300#32 2#16) ∧
    decode (bytes [0x4B, 0x00, 0x00, 0x02, 0x00, 0x20, 0x00, 0x01]) =
      .legal (.i2cSlaveReceive 0#8 0x20000200#32 256#16) := by
  decide
theorem test_decode_i2c_status :
    decode (bytes [0x4C, 0x00]) = .legal (.i2cGetGeneralCall 0#8) ∧ decode (bytes [0x4D, 0x00]) = .legal (.i2cGetStatus 0#8) ∧
    decode (bytes [0x4E, 0x00, 0x02]) = .legal (.i2cRegisterCallback 0#8 2#8) := by
  decide
theorem test_decode_master_events :
    decode (bytes [0x60]) = .legal .mAddrAck ∧ decode (bytes [0x61]) = .legal .mAddrNack ∧
    decode (bytes [0x62]) = .legal .mTxByteAck ∧ decode (bytes [0x63]) = .legal .mTxByteNack ∧
    decode (bytes [0x64]) = .legal .mTxEnd ∧ decode (bytes [0x65, 0x11]) = .legal (.mRxByte 0x11#8) ∧
    decode (bytes [0x66]) = .legal .mRxEnd ∧ decode (bytes [0x67]) = .legal .mAlost := by
  decide
theorem test_decode_slave_events :
    decode (bytes [0x80, 0x00]) = .legal (.sAddrMatch .W) ∧ decode (bytes [0x81, 0xFF]) = .legal (.sRxByte 0xFF#8) ∧
    decode (bytes [0x82]) = .legal .sTxByte ∧ decode (bytes [0x83]) = .legal .sTxUnderflow ∧
    decode (bytes [0x84, 0x01]) = .legal (.sRepstart .R) ∧ decode (bytes [0x85]) = .legal .sStop ∧
    decode (bytes [0x86, 0x06]) = .legal (.sGcall 0x06#8) := by
  decide
theorem test_decode_handlers_and_dma :
    decode (bytes [0xA0]) = .legal .rtcIsr ∧ decode (bytes [0xA1]) = .legal .i2cmIsr ∧
    decode (bytes [0xA2]) = .legal .i2csIsr ∧ decode (bytes [0xA3, 0x00]) = .legal (.dmaIsr .m) ∧
    decode (bytes [0xA3, 0x02]) = .legal (.dmaIsr .srx) ∧ decode (bytes [0xC0, 0x01]) = .legal (.dmaXfer .stx) := by
  decide
/-- Vector E-3's word as one number, its first byte lowest, and the zero operands of a row given only its opcode. -/
theorem test_table_word :
    decodeTableWord 48 0x00010002000A = some (.rtcSetCount 0#8 0x00010002#32) ∧
    decodeTableWord 8 0x0A = some (.rtcSetCount 0#8 0#32) ∧ decodeTableWord 8 0x16 = none := by
  decide

/-! ### The step -/

/-- A placed operation is the next step; the same for an event. -/
theorem test_fetch :
    step (State.reset.withFetchWord 48 0x00010002000A) =
      exec (.rtcSetCount 0#8 0x00010002#32) (State.reset.withFetchWord 48 0x00010002000A) := by
  rfl
theorem test_fetch_event :
    (match step (sRun.withFetchWord 8 0x22) with | .next t => t.rtc.count | _ => 0#32) = 0x00000101#32 := by decide

/-- An event's opcode with an illegal operand byte, in a program (log 25). -/
theorem test_illegal_event_in_program :
    (match runOperation (bytes [0x20, 0x07]) sInit with | .next t => t.refused | _ => none) =
      some .illegalOperation := by
  decide

/-! ### RTC operations (95_test_vectors.md 2.2 to 2.4) -/

/-- R-OP4. -/
theorem test_rtc_init :
    after (.rtcInit 0#8)
      { sRun with rtc := { sRun.rtc with control := 0x0031#16, status := 0x0003#16 } }
      (fun t => (lastCode t, t.rtc.posted.control, t.rtc.posted.status0, t.rtcd.initialized, t.nvic.rtc)) =
      some (rtcOk, some 0x0001#16, some 0x0003#16, true, true) := by
  decide
/-- R-OP3. -/
theorem test_rtc_init_failsafe :
    after (.rtcInit 0#8) State.reset (fun t => (lastCode t, t.rtc.oscOn, t.rtcd.initialized)) =
      some (some (.rtc .clockFailsafe), true, false) := by
  decide
/-- R-OP5. -/
theorem test_rtc_uninit :
    after (.rtcUnInit 0#8) sInit (fun t => (t.rtcd.initialized, t.rtcd.safeWrite, t.nvic.rtc, t.rtc.count)) =
      some (false, false, false, 0x00000100#32) := by
  decide
/-- R-OP7, R-OP8. -/
theorem test_rtc_clear_failsafe :
    after .rtcClearFailSafe State.reset (fun t => (lastCode t, t.rtc.posted.status0)) =
      some (rtcOk, some 0x0004#16) := by
  decide
theorem test_rtc_clear_failsafe_holds :
    after .rtcClearFailSafe (initRtc fun r => { r with inflight := { noWrites with status0 := some 1#16 } })
      (fun t => (lastCode t, t.main.k)) = some (none, .hold (.noSync [.status0]) .stall) := by
  decide
/-- R-OP10 to R-OP13. -/
theorem test_rtc_enable_device :
    after (.rtcEnableDevice 0#8 false) (initRtc fun r => { r with control := 0x0003#16 })
      (fun t => t.rtc.posted.control) = some (some 0x0002#16) := by
  decide
theorem test_rtc_enable_alarm :
    after (.rtcEnableAlarm 0#8 true) sInit (fun t => t.rtc.posted.control) = some (some 0x0003#16) := by decide
theorem test_rtc_enable_trim :
    after (.rtcEnableTrim 0#8 true) sInit (fun t => t.rtc.posted.control) = some (some 0x0005#16) := by decide
theorem test_rtc_enable_lcd_update :
    after (.rtcEnableLcdUpdate 0#8 false) (initRtc fun r => { r with control := 0x0009#16 })
      (fun t => t.rtc.posted.control) = some (some 0x0001#16) := by
  decide
/-- R-OP14: the stall, and the read of the committed value after it. -/
theorem test_rtc_enable_trim_holds :
    after (.rtcEnableTrim 0#8 true) (initRtc fun r => { r with posted := { noWrites with control := some 3#16 } })
      (fun t => t.main.k) = some (.hold (.noPend [.control]) .stall) := by
  decide
/-- R-OP16, R-OP18. -/
theorem test_rtc_enable_interrupts :
    after (.rtcEnableInterrupts 0#8 0x0002#16 false) (initRtc fun r => { r with control := 0x0033#16 })
      (fun t => (t.rtc.posted.control, t.nvic.rtc)) = some (some 0x0013#16, false) := by
  decide
theorem test_rtc_enable_interrupts_bad_mask :
    after (.rtcEnableInterrupts 0#8 0x0004#16 true) sInit (fun t => (lastCode t, t.rtc.posted, t.nvic.rtc)) =
      some (some (.rtc .badParam), noWrites, true) := by
  decide
/-- R-OP19. -/
theorem test_rtc_enable_safe_writes :
    after (.rtcEnableSafeWrites 0#8 false) sInit (fun t => t.rtcd.safeWrite) = some false := by decide
/-- R-OP20, R-G3. -/
theorem test_rtc_get_count :
    after (.rtcGetCount 0#8) (initRtc fun r => { r with count := 0x00012345#32 })
      (fun t => (lastValue t, t.nvic.rtc)) = some (some 0x00012345#32, true) := by
  decide
theorem test_rtc_get_count_not_initialized :
    after (.rtcGetCount 0#8) sRun lastCode = some (some (.rtc .notInitialized)) := by decide
/-- R-OP24, R-OP25. -/
theorem test_rtc_set_count :
    after (.rtcSetCount 0#8 0x00010002#32) sFs
      (fun t => (t.rtc.posted.countLo, t.rtc.posted.countHi, t.rtc.posted.status0)) =
      some (some 2#16, some 1#16, some 4#16) := by
  decide
theorem test_rtc_set_count_status_stall :
    after (.rtcSetCount 0#8 0x00010002#32)
      { sFs with rtc := { sFs.rtc with posted := { noWrites with status0 := some 4#16 } } }
      (fun t => (t.rtc.posted.countHi, t.main.k)) = some (some 1#16, .hold (.noPend [.status0]) .statusStall) := by
  decide
/-- R-OP26. -/
theorem test_rtc_get_alarm :
    after (.rtcGetAlarm 0#8) (initRtc fun r => { r with alarm := 0x00000105#32 }) lastValue =
      some (some 0x00000105#32) := by
  decide
/-- R-OP27. -/
theorem test_rtc_set_alarm :
    after (.rtcSetAlarm 0#8 0xFFFF0000#32) sInit (fun t => (t.rtc.posted.alarmLo, t.rtc.posted.alarmHi)) =
      some (some 0x0000#16, some 0xFFFF#16) := by
  decide
/-- R-OP29. -/
theorem test_rtc_get_trim :
    after (.rtcGetTrim 0#8) (initRtc fun r => { r with trim := 0x001D#16 }) lastValue = some (some 0x001D#32) := by
  decide
/-- R-OP31. R-L1: the second post is lost, and with `keepNew = false` the first survives. -/
theorem test_rtc_set_trim :
    after (.rtcSetTrim 0#8 0xFF1D#16) sInit (fun t => t.rtc.posted.trim) = some (some 0x001D#16) := by decide
theorem test_rtc_set_trim_lost :
    after (.rtcSetTrim 0#8 2#16)
      (withTape [0]
        { sInit with
          rtcd := { sInit.rtcd with safeWrite := false }
          rtc := { sInit.rtc with posted := { noWrites with trim := some 1#16 } } })
      (fun t => (t.rtc.posted.trim, t.rtc.status, t.rtc.errSrc)) = some (some 1#16, 0x0002#16, 6#3) := by
  decide
/-- R-OP33. -/
theorem test_rtc_get_interrupt_status :
    after (.rtcGetInterruptStatus 0#8) (initRtc fun r => { r with status := 0x0003#16 })
      (fun t => (lastValue t, t.rtc.status)) = some (some 3#32, 0x0003#16) := by
  decide
/-- R-OP38, R-OP39. -/
theorem test_rtc_clear_interrupt_status :
    after (.rtcClearInterruptStatus 0#8 0x0004#16) sFs (fun t => t.rtc.posted.status0) = some (some 0x0004#16) := by
  decide
theorem test_rtc_clear_interrupt_status_failsafe :
    after (.rtcClearInterruptStatus 0#8 0x0008#16) sFs (fun t => (lastCode t, t.rtc.posted)) =
      some (some (.rtc .clockFailsafe), noWrites) := by
  decide
/-- R-OP41. -/
theorem test_rtc_get_write_pend_status :
    after (.rtcGetWritePendStatus 0#8)
      (initRtc fun r =>
        { r with
          posted := { noWrites with countHi := some 0#16 }, inflight := { noWrites with countLo := some 1#16 } })
      lastValue = some (some 0x0008#32) := by
  decide
theorem test_rtc_get_write_sync_status :
    after (.rtcGetWriteSyncStatus 0#8)
      (initRtc fun r =>
        { r with
          posted := { noWrites with countHi := some 0#16 }, inflight := { noWrites with countLo := some 1#16 } })
      lastValue = some (some 0x000C#32) := by
  decide
/-- R-OP43. -/
theorem test_rtc_get_write_error_source :
    after (.rtcGetWriteErrorSource 0#8) sInit lastValue = some (some 7#32) := by decide
/-- R-OP44, R-OP45. -/
theorem test_rtc_synchronize :
    after (.rtcSynchronizeAllWrites 0#8) sInit lastCode = some rtcOk := by decide
theorem test_rtc_synchronize_holds :
    after (.rtcSynchronizeAllWrites 0#8) (initRtc fun r => { r with inflight := { noWrites with countLo := some 0x10#16 } })
      (fun t => t.main.k) = some (.hold (.noSync allGroups) .stall) := by
  decide
/-- R-OP46. -/
theorem test_rtc_register_callback :
    after (.rtcRegisterCallback 0#8 0#8 0xFFFF#16) { sInit with rtcd := { sInit.rtcd with cb := some 1#8 } }
      (fun t => (t.rtcd.cb, t.rtcd.watch)) = some (none, 0xFFFF#16) := by
  decide

/-! ### RTC events and handler (95_test_vectors.md 2.4, 2.5) -/

/-- R-E1, R-E3. -/
theorem test_rtc_accept :
    after (.rtcAccept .countLo) (initRtc fun r => { r with posted := { noWrites with countLo := some 5#16 } })
      (fun t => (t.rtc.inflight.countLo, t.rtc.posted.countLo)) = some (some 5#16, none) := by
  decide
theorem test_rtc_accept_oscillator_off :
    after (.rtcAccept .status0)
      { State.reset with rtc := { State.reset.rtc with posted := { noWrites with status0 := some 4#16 } } }
      (fun t => t.refused) = some (some .eventNotEnabled) := by
  decide
/-- R-E4, R-E5. -/
theorem test_rtc_commit_control :
    after (.rtcCommit .control) (initRtc fun r => { r with inflight := { noWrites with control := some 0xFFFF#16 } })
      (fun t => (t.rtc.control, t.rtc.inflight.control)) = some (0x003F#16, none) := by
  decide
theorem test_rtc_commit_status :
    after (.rtcCommit .status0)
      (initRtc fun r =>
        { r with status := 0x0003#16, errSrc := 6#3, inflight := { noWrites with status0 := some 2#16 } })
      (fun t => (t.rtc.status, t.rtc.errSrc)) = some (0x0001#16, 7#3) := by
  decide
/-- R-E8, R-E9. -/
theorem test_rtc_second_wraps :
    after .rtcSecond (initRtc fun r => { r with count := 0xFFFFFFFF#32 }) (fun t => t.rtc.count) = some 0#32 := by
  decide
theorem test_rtc_second_alarm :
    after .rtcSecond (initRtc fun r => { r with count := 0x104#32, alarm := 0x105#32, control := 3#16 })
      (fun t => (t.rtc.count, t.rtc.status)) = some (0x105#32, 0x0001#16) := by
  decide
/-- R-E13. -/
theorem test_rtc_failsafe_latch :
    after .rtcFailsafeLatch
      (withTape [0, 0xDEADBEEF, 0, 0, 0, 7]
        (initRtc fun r => { r with posted := { noWrites with control := some 1#16 } }))
      (fun t => (t.rtc.status, t.rtc.count, t.rtc.posted, t.rtc.oscOn, t.rtcd.initialized)) =
      some (0x0004#16, 0xDEADBEEF#32, noWrites, true, true) := by
  decide
/-- With the oscillator off: by R276 it runs, by 10_state.md R33 it is not enabled (log 26). -/
theorem test_rtc_failsafe_latch_oscillator_off :
    (let s := withTape [0, 0xDEADBEEF, 0, 0, 0, 7] State.reset
     after .rtcFailsafeLatch s (fun t => (t.rtc.count, t.rtc.oscOn, t.refused)) = some (0xDEADBEEF#32, false, none)) ∧
    (let s := { State.reset with cfg := { State.reset.cfg with latchNeedsOsc := true } }
     after .rtcFailsafeLatch s (fun t => t.refused) = some (some .eventNotEnabled)) := by
  decide
/-- R-H2, and the second run of R-H5. -/
theorem test_rtc_isr :
    after .rtcIsr
      { sInit with
        rtc := { sInit.rtc with status := 3#16, control := 0x0031#16 }
        rtcd := { sInit.rtcd with cb := some 1#8, watch := 2#16 } }
      (fun t => (t.cblog, t.rtc.posted.status0, t.hnd)) = some ([(1#8, 3#32)], some 3#16, none) := by
  decide
theorem test_rtc_isr_holds :
    after .rtcIsr
      { sInit with
        rtc := { sInit.rtc with status := 1#16, control := 0x0011#16, posted := { noWrites with status0 := some 1#16 } }
        rtcd := { sInit.rtcd with cb := some 1#8, watch := 1#16 } }
      (fun t => (t.cblog, t.hnd)) =
      some ([(1#8, 1#32)], some { handler := .rtcIsr, point := .stall 1#16 }) := by
  decide

/-! ### I2C lifecycle and configuration (95_test_vectors.md 3.1) -/

theorem test_i2c_master_init :
    after (.i2cMasterInit 0#8) State.reset (fun t => (lastCode t, t.i2cd.mode, t.i2cd.blocking, t.m.en, t.nvic.i2cm)) =
      some (i2cOk, .master, true, true, true) := by
  decide
/-- C-3. -/
theorem test_i2c_master_init_semaphore :
    after (.i2cMasterInit 0#8) (withTape [0] { State.reset with cfg := { defaultParams with rtos := true } })
      (fun t => (lastCode t, t.i2cd.mode)) = some (some (.i2c .semaphoreError), .uninitialized) := by
  decide
theorem test_i2c_slave_init :
    after (.i2cSlaveInit 0#8) State.reset (fun t => (lastCode t, t.i2cd.mode, t.sl.en, t.nvic.i2cs)) =
      some (i2cOk, .slave, false, true) := by
  decide
/-- C-14, C-15. -/
theorem test_i2c_uninit :
    after (.i2cUnInit 0#8) sM (fun t => (lastCode t, t.i2cd.mode, t.nvic.i2cm, t.m.en)) =
      some (i2cOk, .uninitialized, false, false) := by
  decide
theorem test_i2c_uninit_dma :
    after (.i2cUnInit 0#8) (withTape [1] sMdma) (fun t => (t.i2cd.dmaOwned, t.nvic.dmaM, t.nvic.i2cm)) =
      some (false, false, false) := by
  decide
/-- C-9. -/
theorem test_i2c_set_blocking_mode :
    after (.i2cSetBlockingMode 0#8 true) sMdma (fun t => (lastCode t, t.i2cd.blocking)) =
      some (some (.i2c .badModeCombination), false) := by
  decide
/-- C-10. -/
theorem test_i2c_set_dma_mode :
    after (.i2cSetDmaMode 0#8 true) (withTape [1] sMnb) (fun t => (t.i2cd.dma, t.i2cd.engine, t.i2cd.dmaOwned, t.nvic.dmaM)) =
      some (true, .dma, true, true) := by
  decide
theorem test_i2c_set_dma_mode_fails :
    after (.i2cSetDmaMode 0#8 true) (withTape [0] sMnb) (fun t => (lastCode t, t.i2cd.dma, t.nvic.dmaM)) =
      some (some (.i2c .dmaError), false, false) := by
  decide
/-- C-16. -/
theorem test_i2c_set_slave_address :
    after (.i2cSetSlaveAddress 0#8 0x80#16) sS (fun t => (lastCode t, t.i2cd.slaveId)) =
      some (some (.i2c .badParam), 0x42#10) := by
  decide
theorem test_i2c_set_ten_bit :
    after (.i2cSetTenBitAddressing 0#8 true) sS (fun t => t.i2cd.tenBit) = some true := by decide
/-- C-6, C-20. -/
theorem test_i2c_set_clock_stretch :
    after (.i2cSetClockStretch 0#8 true) { sSnb with i2cd := { sSnb.i2cd with complete := false } }
      (fun t => (lastCode t, t.i2cd.clockStretch)) = some (i2cOk, true) := by
  decide
theorem test_i2c_set_clock_stretch_master :
    after (.i2cSetClockStretch 0#8 true) sM lastCode = some (some (.i2c .badApiForMode)) := by decide
theorem test_i2c_get_general_call :
    after (.i2cGetGeneralCall 0#8) { sS with i2cd := { sS.i2cd with gcPending := true, gcCmd := 6#8 } }
      (fun t => (t.i2cd.gcPending, t.main.results.map fun r => (r.out.pending, r.out.cmd))) =
      some (false, [(some true, some 6#8)]) := by
  decide
theorem test_i2c_get_status :
    after (.i2cGetStatus 0#8) { sM with i2cd := { sM.i2cd with txRem := 2 } }
      (fun t => t.main.results.map fun r => (r.out.complete, r.out.txRem)) = some [(some true, some 2)] := by
  decide
/-- C-19. -/
theorem test_i2c_register_callback :
    after (.i2cRegisterCallback 0#8 2#8) sM (fun t => t.i2cd.cb) = some (some 2#8) := by decide

/-! ### I2C transfers (95_test_vectors.md 3.2 to 3.4) -/

/-- M-7. -/
theorem test_master_transmit_ten_bit :
    after (.i2cMasterTransmit 0#8 0x2A5#16 0#32 0#8 0x20000000#32 1#16 false)
      { sM with i2cd := { sM.i2cd with tenBit := true } }
      (fun t => (t.m.adr1, t.m.adr2, t.m.txf, t.trace, t.main.k)) =
      some (0xF4#8, 0xA5#8, [0xAA#8], [.start], .hold .signalled .done) := by
  decide
/-- K-1. -/
theorem test_master_transmit_bad_width :
    after (.i2cMasterTransmit 0#8 0x50#16 0#32 5#8 0x20000000#32 1#16 false) sM lastCode =
      some (some (.i2c .badParam)) := by
  decide
/-- The first step of M-9. -/
theorem test_master_receive_with_address :
    after (.i2cMasterReceive 0#8 0x50#16 0x1234#32 2#8 0x20000100#32 1#16 true) sM
      (fun t => (t.m.adr1, t.m.txf, t.i2cd.daw, t.main.k)) =
      some (0xA0#8, [0x12#8], 1, .hold .signalled .subDone) := by
  decide
/-- M-10. -/
theorem test_master_receive_extended :
    after (.i2cMasterReceive 0#8 0x50#16 0#32 0#8 0x20000100#32 257#16 false) sMnb
      (fun t => (t.m.rxcnt, t.m.extend, t.m.rxTarget, t.m.adr1)) = some (0#16, true, 257, 0xA1#8) := by
  decide
/-- The pre-fill of S-6, and the burst of two bytes. -/
theorem test_slave_transmit :
    after (.i2cSlaveTransmit 0#8 0x20000000#32 4#16) sSnb (fun t => (t.sl.txf, t.i2cd.txRem, t.i2cd.txPtr)) =
      some ([0xAA#8, 0xBB#8], 2, 0x20000002#32) := by
  decide
/-- C-18. -/
theorem test_slave_receive_bad_address :
    after (.i2cSlaveReceive 0#8 0x20000100#32 1#16) { sS with i2cd := { sS.i2cd with slaveId := 0x3FF#10 } }
      (fun t => (lastCode t, t.sl.en)) = some (some (.i2c .badParam), false) := by
  decide
theorem test_slave_receive :
    after (.i2cSlaveReceive 0#8 0x20000100#32 4#16) sS (fun t => (t.sl.en, t.sl.ie.rxreq, t.i2cd.rxRem, t.main.k)) =
      some (true, true, 4, .hold .signalled .done) := by
  decide

/-! ### The master engine and its handler (95_test_vectors.md 3.3) -/

/-- M-8. -/
theorem test_m_addr_ack :
    after .mAddrAck (masterWith fun m => { m with busy := true, phase := .addrWait, adr1 := 0xF0#8 })
      (fun t => (t.m.phase, t.trace)) = some (.data, [.addr 0xF0#8, .addr 0x00#8, .ack]) := by
  decide
/-- M-1. -/
theorem test_m_addr_nack :
    after .mAddrNack (masterWith fun m => { m with busy := true, phase := .addrWait, adr1 := 0xA0#8 })
      (fun t => (t.m.nackA, t.m.busy, t.trace)) = some (true, false, [.addr 0xA0#8, .nack, .stop]) := by
  decide
theorem test_m_tx_byte_ack :
    after .mTxByteAck (masterWith fun m => { inData .W m with txf := [0xAA#8, 0xBB#8] })
      (fun t => (t.m.txf, t.trace)) = some ([0xBB#8], [.data 0xAA#8, .ack]) := by
  decide
/-- M-2. -/
theorem test_m_tx_byte_nack :
    after .mTxByteNack (masterWith fun m => { inData .W m with txf := [0xAA#8] })
      (fun t => (t.m.nackD, t.m.busy, t.trace)) = some (true, false, [.data 0xAA#8, .nack, .stop]) := by
  decide
theorem test_m_tx_end :
    after .mTxEnd (masterWith (inData .W)) (fun t => (t.m.tcomp, t.m.busHeld, t.trace)) =
      some (true, false, [.stop]) := by
  decide
/-- The fourth line of M-9. -/
theorem test_m_tx_end_repeated_start :
    after .mTxEnd (masterWith fun m => { inData .W m with rsQueued := true })
      (fun t => (t.m.tcomp, t.m.busHeld, t.m.rsQueued, t.trace)) = some (true, true, false, []) := by
  decide
/-- M-11. -/
theorem test_m_rx_byte :
    after (.mRxByte 0x99#8) (masterWith fun m => { inData .R m with rxTarget := 1 })
      (fun t => (t.m.rxf, t.m.nrx, t.trace)) = some ([0x99#8], 1, [.data 0x99#8, .nack]) := by
  decide
theorem test_m_rx_byte_full :
    after (.mRxByte 3#8) (masterWith fun m => { inData .R m with rxTarget := 4, nrx := 2, rxf := [1#8, 2#8] })
      (fun t => t.refused) = some (some .eventNotEnabled) := by
  decide
theorem test_m_rx_end :
    after .mRxEnd (masterWith fun m => { inData .R m with rxTarget := 1, nrx := 1 })
      (fun t => (t.m.tcomp, t.m.busy, t.trace)) = some (true, false, [.stop]) := by
  decide
/-- M-3. -/
theorem test_m_alost :
    after .mAlost (masterWith fun m => { m with busy := true, phase := .addrWait, rsQueued := true })
      (fun t => (t.m.alost, t.m.busHeld, t.trace)) = some (true, false, [.alost]) := by
  decide
/-- M-4. -/
theorem test_i2cm_isr_precedence :
    after .i2cmIsr
      { sM with
        m := { sM.m with alost := true, nackA := true, ie := { MasterIe.none with alost := true } }
        i2cd := { sM.i2cd with complete := false } }
      (fun t => (t.i2cd.result, t.i2cd.complete, t.m.alost, t.m.nackA, t.m.en)) =
      some (.masterAlost, true, false, false, false) := by
  decide
/-- M-12. -/
theorem test_i2cm_isr_late_repeat_start :
    after .i2cmIsr
      { sMnb with
        m :=
          { sMnb.m with
            adr1 := 0xA1#8, rxf := [0x55#8], tcomp := true, ie := { MasterIe.none with rxreq := true, tcomp := true } }
        i2cd :=
          { sMnb.i2cd with complete := false, rs := true, firstFifo := true, rxPtr := 0x20000100#32, rxRem := 1 } }
      (fun t => (t.m.busy, t.m.tcomp, t.i2cd.result, Memory.read t.mem 0x20000100, t.trace)) =
      some (true, false, .success, 0x55#8, [.start]) := by
  decide

/-! ### The slave engine and its handler (95_test_vectors.md 3.4) -/

theorem test_s_addr_match :
    after (.sAddrMatch .R) (slaveWith fun h => { h with en := true, addr := 0x42#10 })
      (fun t => (t.sl.busy, t.sl.dir, t.trace)) = some (true, .R, [.start, .addr 0x85#8, .ack]) := by
  decide
theorem test_s_rx_byte :
    after (.sRxByte 0x22#8) (slaveWith fun h => { inTransfer .W h with rxf := [0x11#8] })
      (fun t => (t.sl.rxf, t.trace)) = some ([0x11#8, 0x22#8], [.data 0x22#8, .ack]) := by
  decide
theorem test_s_tx_byte :
    after .sTxByte (slaveWith fun h => { inTransfer .R h with txf := [0xAA#8, 0xBB#8] })
      (fun t => (t.sl.txf, t.trace)) = some ([0xBB#8], [.data 0xAA#8, .ack]) := by
  decide
theorem test_s_tx_underflow :
    after .sTxUnderflow (withTape [0x3C] (slaveWith (inTransfer .R))) (fun t => (t.sl.txf, t.trace)) =
      some ([], [.data 0x3C#8, .ack]) := by
  decide
theorem test_s_repstart :
    after (.sRepstart .R) (slaveWith fun h => { inTransfer .W h with addr := 0x42#10 })
      (fun t => (t.sl.repstart, t.sl.dir, t.trace)) = some (true, .R, [.sr, .addr 0x85#8, .ack]) := by
  decide
theorem test_s_stop :
    after .sStop (slaveWith (inTransfer .W)) (fun t => (t.sl.stop, t.sl.busy, t.trace)) =
      some (true, false, [.stop]) := by
  decide
/-- S-1. -/
theorem test_s_gcall :
    after (.sGcall 6#8) (slaveWith fun h => { h with en := true })
      (fun t => (t.sl.gcall, t.sl.gcId, t.trace)) =
      some (true, 6#8, [.start, .addr 0x00#8, .ack, .data 6#8, .ack]) := by
  decide
/-- The last pass of S-3. -/
theorem test_i2cs_isr_last_byte_and_repeat_start :
    after .i2csIsr
      { sSnb with
        sl :=
          { inTransfer .R sSnb.sl with
            rxf := [0x22#8], repstart := true, ie := { SlaveIe.none with rxreq := true, repstart := true } }
        i2cd := { sSnb.i2cd with complete := false, rxPtr := 0x20000101#32, rxRem := 1, rxFilled := 1, xferLen := 2 } }
      (fun t => (t.i2cd.result, t.i2cd.rxFilled, t.i2cd.rxRem, t.sl.clockHold, Memory.read t.mem 0x20000101)) =
      some (.slaveRepeatStart, 2, 0, false, 0x22#8) := by
  decide
/-- The handler of S-1. -/
theorem test_i2cs_isr_general_call :
    after .i2csIsr
      { sSnb with
        sl := { inTransfer .W sSnb.sl with gcall := true, gcId := 6#8, ie := { SlaveIe.none with gcall := true } }
        i2cd := { sSnb.i2cd with complete := false } }
      (fun t => (t.i2cd.result, t.i2cd.gcPending, t.i2cd.gcCmd, t.sl.gcall)) =
      some (.slaveGeneralCall, true, 6#8, false) := by
  decide

/-! ### DMA (44_i2c_dma.md) -/

/-- S_MDMA with a write of five bytes at the buffer, its first two chunks submitted (vector D-1). -/
def sDma : State := dmaStart .m 0x20000000#32 5 { sMdma with m := { sMdma.m with dmaTx := true } }

theorem test_dma_start :
    (sDma.dma.m.pri.count, sDma.dma.m.alt.count, sDma.dma.m.alt.ptr, sDma.i2cd.unsched, sDma.i2cd.nextSlot) =
      (2, 2, 0x20000002#32, 1, .pri) := by
  decide
theorem test_dma_xfer :
    after (.dmaXfer .m) sDma (fun t => (t.m.txf, t.dma.m.pri.ptr, t.dma.m.pri.count, t.dma.m.done)) =
      some ([0xAA#8], 0x20000001#32, 1, false) := by
  decide
theorem test_dma_isr_schedules :
    after (.dmaIsr .m)
      { sDma with
        dma :=
          { sDma.dma with
            m := { sDma.dma.m with pri := Desc.inactive true, cur := .alt, done := true } } }
      (fun t => (t.dma.m.pri.mode, t.dma.m.pri.count, t.dma.m.pri.ptr, t.dma.m.done, t.i2cd.unsched)) =
      some (.pingpong, 1, 0x20000004#32, false, 0) := by
  decide
theorem test_dma_isr_mismatch :
    after (.dmaIsr .m)
      { sDma with
        dma :=
          { sDma.dma with
            m := { sDma.dma.m with alt := Desc.inactive true, done := true } } }
      (fun t => t.fault) = some (some .dmaSlotMismatch) := by
  decide

/-! ### The hypotheses of the obligations are met -/

/-- A state about to run the program's one word. -/
def running (w : List Nat) (s : State) : State := { s with main := { s.main with prog := [bytes w] } }

/-- A state whose next schedule line is given. -/
def scheduledTurn (t : Turn) (s : State) : State := { s with env := { s.env with sched := [t] } }

/-- A handler of `sM` or of `sSnb` may start. -/
def sMisr : State := masterWith fun m => { inData .W m with ie := { MasterIe.none with txreq := true } }

/-- The slave handler may start with a received byte. -/
def sSisr : State := slaveWith fun h => { inTransfer .W h with rxf := [0x11#8], ie := { SlaveIe.none with rxreq := true } }

theorem witness_DecodedWordIsEncoding : decode (bytes [0x02, 0x55]) = .legal .rtcClearFailSafe := by decide
theorem witness_StepRunsDecodedWord :
    let s := running [0x09, 0x00] sInit
    let e := scheduledTurn (.event (bytes [0x22])) sInit
    (Unmarked s ∧ s.env.eager = true ∧ s.hnd = none ∧ s.main.prog[s.main.pc]? = some (bytes [0x09, 0x00]) ∧
      s.main.k.ready s = true ∧ decode (bytes [0x09, 0x00]) = .legal (.rtcGetCount 0#8) ∧
      isOperation (.rtcGetCount 0#8) = true) ∧
    (Unmarked e ∧ mainReady e = false ∧ e.env.sched = .event (bytes [0x22]) :: [] ∧
      decode (bytes [0x22]) = .legal .rtcSecond ∧ isOperation .rtcSecond = false) := by
  decide
theorem witness_RefusalsMarkAndStop :
    let s := running [0x16] sInit
    let e := running [0x22] sInit
    (Unmarked s ∧ s.env.eager = true ∧ s.hnd = none ∧ s.main.prog[s.main.pc]? = some (bytes [0x16]) ∧
      s.main.k.ready s = true ∧ wordLegal (bytes [0x16]) = false) ∧
    (Unmarked e ∧ e.main.prog[e.main.pc]? = some (bytes [0x22]) ∧ decode (bytes [0x22]) = .legal .rtcSecond ∧
      isOperation .rtcSecond = false) ∧
    (sInit.markFault .fifoOverflow).fault = some .fifoOverflow ∧
    (sInit.refuse .illegalOperation).fault = none ∧
    (sInit.refuse .illegalOperation).refused = some .illegalOperation := by
  decide
theorem witness_EventNotEnabledRefused :
    (isOperation .mAddrAck = false ∧ enabledWhen .mAddrAck sM = false) ∧
    (isOperation .rtcIsr = false ∧ enabledWhen .rtcIsr sInit = false) ∧
    enabledWhen (.mRxByte 3#8)
      (masterWith fun m => { inData .R m with rxTarget := 4, nrx := 2, rxf := [1#8, 2#8] }) = false := by
  decide
theorem witness_MainContextHolds :
    isOperation (.rtcGetCount 0#8) = true ∧
    ({ sInit with hnd := some { handler := .rtcIsr, point := .stall 1#16 } } : State).hnd.isSome = true ∧
    (holding .signalled .done sM).main.k = .hold .signalled .done ∧
    Await.holds (holding .signalled .done sM) .signalled = false := by
  decide

/-- The slave handler may start with a received byte and `n` bytes to go at `p`. -/
def sReceiving (n : Nat) (p : Addr) : State :=
  { sSisr with i2cd := { sSisr.i2cd with complete := false, rxRem := n, rxPtr := p } }

/-- The slave handler may start with a byte received and a byte to send. -/
def sBothDue : State :=
  let s := sReceiving 2 0x20000100#32
  { s with
    sl := { s.sl with dir := .R, ie := { s.sl.ie with txreq := true } }
    i2cd := { s.i2cd with txRem := 1, txPtr := 0x20000003#32 } }

theorem witness_StepKeepsMemoryCanonical :
    let s := scheduledTurn (.event (bytes [0xA2]))
      { sSisr with i2cd := { sSisr.i2cd with complete := false, rxPtr := 0x20000100#32, rxRem := 1 } }
    MemoryCanonical s ∧ (match step s with | .next t => Memory.read t.mem 0x20000100 | _ => 0#8) = 0x11#8 := by
  decide
theorem witness_StepKeepsReservedBitsZero :
    let s := scheduledTurn (.event (bytes [0x21, 0x00]))
      (initRtc fun r => { r with inflight := { noWrites with control := some 0xFFFF#16 } })
    ReservedBitsZero s ∧ (match step s with | .next t => t.rtc.control | _ => 0#16) = 0x003F#16 := by
  decide
theorem witness_StepKeepsFifosWithinDepth :
    let s := scheduledTurn (.event (bytes [0x81, 0x22])) sSisr
    FifosWithinDepth s ∧ (match step s with | .next t => t.sl.rxf.length | _ => 0) = 2 := by
  decide
theorem witness_StepKeepsEngineMode :
    let s := withTape [1] (running [0x44, 0x00, 0x01] sMnb)
    EngineMatchesMode s ∧ (match step s with | .next t => t.i2cd.dma | _ => false) = true := by
  decide
theorem witness_StepKeepsBetweenSteps :
    let s := scheduledTurn (.event (bytes [0xA0]))
      (initRtc fun r =>
        { r with status := 1#16, control := 0x0011#16, posted := { noWrites with status0 := some 1#16 } })
    BetweenSteps s ∧ (match step s with | .next t => t.hnd.isSome | _ => false) = true := by
  decide
theorem witness_StepKeepsPcCountsResults :
    let s := running [0x09, 0x00] sInit
    PcCountsResults s ∧ (match step s with | .next t => t.main.pc | _ => 0) = 1 := by
  decide

/-- A master engine awaiting its address step. -/
def sAddressing : State := masterWith fun m => { m with busy := true, phase := .addrWait, adr1 := 0xA0#8 }

/-- The RTC handler may start. -/
def sRtcRequest : State := initRtc fun r => { r with status := 1#16, control := 0x0011#16 }

/-- An instruction of each group, one that writes no line enable, one RTC operation and the four handlers, each with a
next state. -/
theorem witness_GroupsAreSeparate :
    (rtcGroup (.rtcGetCount 0#8) = true ∧ ∃ t, exec (.rtcGetCount 0#8) sInit = .next t) ∧
    (rtcGroup .mAddrNack = false ∧ ∃ t, exec .mAddrNack sAddressing = .next t) :=
  ⟨⟨by decide, _, rfl⟩, by decide, _, rfl⟩
theorem witness_LineEnableWriters :
    writesLines (.rtcGetCount 0#8) = false ∧ ∃ t, exec (.rtcGetCount 0#8) sInit = .next t :=
  ⟨by decide, _, rfl⟩
theorem witness_CommittedRtcValuesKept :
    (isOperation (.rtcSetTrim 0#8 2#16) = true ∧ ∃ t, exec (.rtcSetTrim 0#8 2#16) sInit = .next t) ∧
    (isHandler .rtcIsr = true ∧ enabledWhen .rtcIsr sRtcRequest = true ∧ ∃ t, exec .rtcIsr sRtcRequest = .next t) ∧
    (isHandler .i2cmIsr = true ∧ enabledWhen .i2cmIsr sMisr = true ∧ ∃ t, exec .i2cmIsr sMisr = .next t) ∧
    (isHandler .i2csIsr = true ∧ enabledWhen .i2csIsr sSisr = true ∧ ∃ t, exec .i2csIsr sSisr = .next t) ∧
    (let s := { sDma with dma := { sDma.dma with m := { sDma.dma.m with done := true } } }
     isHandler (.dmaIsr .m) = true ∧ enabledWhen (.dmaIsr .m) s = true ∧ ∃ t, exec (.dmaIsr .m) s = .next t) :=
  ⟨⟨by decide, _, rfl⟩, ⟨by decide, by decide, _, rfl⟩, ⟨by decide, by decide, _, rfl⟩, ⟨by decide, by decide, _, rfl⟩,
    by decide, by decide, _, rfl⟩
theorem witness_LogsOnlyGrow : ∃ t, exec .mAddrNack sAddressing = .next t := ⟨_, rfl⟩
theorem witness_ResetTurns :
    (Unmarked (scheduledTurn .coreReset sInit) ∧ mainReady (scheduledTurn .coreReset sInit) = false ∧
      (scheduledTurn .coreReset sInit).env.sched = .coreReset :: []) ∧
    (let s := withTape [2, 0xDEADBEEF, 0, 0, 0, 7] (scheduledTurn .por sInit)
     Unmarked s ∧ mainReady s = false ∧ s.env.sched = .por :: [] ∧
       s.env.tape =
         (2#2).toNat :: (0xDEADBEEF#32).toNat :: (0#32).toNat :: (0#16).toNat :: (0#16).toNat :: (7#3).toNat :: []) := by
  decide

theorem witness_RtcHandleGate :
    rtcHandleOf (.rtcGetCount 1#8) = some 1#8 ∧ rtcHandleOf (.rtcGetCount 0#8) = some 0#8 ∧ AtStart sInit ∧
    (AtStart sRun ∧ sRun.rtcd.initialized = false) ∧
    (AtStart sFs ∧ sFs.rtcd.initialized = true ∧ failsafeExempt (.rtcGetCount 0#8) = false ∧
      sFs.rtc.status.getLsbD 2 = true) := by
  decide
theorem witness_PostedWrite :
    sInit.rtc.posted.get .trim = none ∧
    (withTape [1] (initRtc fun r => { r with posted := { noWrites with trim := some 1#16 } })).rtc.posted.get .trim =
      some 1#16 ∧
    (withTape [1] sInit).env.tape = 1 :: [] := by
  decide
theorem witness_RtcInit :
    (AtStart sRun ∧ sRun.rtcd.initialized = false ∧ sRun.rtc.status.getLsbD 2 = false ∧
      sRun.rtc.posted.control = none ∧ sRun.rtc.posted.status0 = none) ∧
    (AtStart sInit ∧ sInit.rtcd.initialized = true) ∧
    (AtStart State.reset ∧ State.reset.rtcd.initialized = false ∧ State.reset.rtc.status.getLsbD 2 = true) ∧
    (let s := { sRun with rtc := { sRun.rtc with posted := { noWrites with control := some 1#16 } } }
     AtStart s ∧ s.rtcd.initialized = false ∧ s.rtc.status.getLsbD 2 = false ∧ s.rtc.posted.control ≠ none) ∧
    (let s := holding (.noPend [.control]) .stall
       { sRun with rtc := { sRun.rtc with posted := { noWrites with status0 := some 1#16 } } }
     Resumes (.noPend [.control]) .stall s ∧ s.rtcd.safeWrite = true ∧ s.rtc.posted.status0 ≠ none) ∧
    (let s := { sRun with rtc := { sRun.rtc with posted := { noWrites with status0 := some 1#16 } } }
     AtStart s ∧ s.rtcd.initialized = false ∧ s.rtc.status.getLsbD 2 = false ∧ s.rtc.posted.control = none ∧
       s.rtc.posted.status0 ≠ none) ∧
    (let s := holding (.noPend [.control]) .stall sRun
     Resumes (.noPend [.control]) .stall s ∧ s.rtc.posted.status0 = none) ∧
    Resumes (.noPend [.status0]) .statusStall (holding (.noPend [.status0]) .statusStall sRun) := by
  decide
/-- For RtcSoftwareOperations, RtcGetters and the start clauses of the other gated RTC operations. -/
theorem witness_rtc_open : AtStart sInit ∧ RtcOpen sInit := by decide
theorem witness_RtcSyncWaits :
    (let s := initRtc fun r => { r with inflight := { noWrites with status0 := some 1#16 } }
     AtStart s ∧ RtcOpen s ∧ sync s .status0 = true) ∧
    Reaches (.noSync [.status0]) .stall sInit ∧
    Reaches (.noSync [.status0]) .stall (holding (.noSync [.status0]) .stall sInit) ∧
    (let s := holding (.noSync allGroups) .stall sInit
     s.hnd = none ∧ s.main.crit = false ∧ s.main.k = .hold (.noSync allGroups) .stall ∧
       ∀ g ∈ allGroups, sync s g = false) := by
  decide
theorem witness_RtcControlEnables :
    controlEnableOf (.rtcEnableAlarm 0#8 true) = some (0x0002#16, true) ∧ AtStart sInit ∧ RtcOpen sInit ∧
    Resumes (.noPend [.control]) .stall (holding (.noPend [.control]) .stall sInit) := by
  decide
theorem witness_RtcInterruptOperations :
    (0x0004#16 &&& ~~~0x0003#16 ≠ 0#16) ∧ (0x0003#16 &&& ~~~0x0003#16 = 0#16) ∧
    (AtStart sFs ∧ sFs.rtcd.initialized = true ∧ sFs.rtc.status.getLsbD 2 = true) ∧
    sInit.rtc.status.getLsbD 2 = false ∧ (0x0008#16 &&& ~~~0x0007#16 ≠ 0#16) ∧ (0x0007#16 &&& ~~~0x0007#16 = 0#16) ∧
    Resumes (.noPend [.control]) .stall (holding (.noPend [.control]) .stall sInit) ∧
    Resumes (.noPend [.status0]) .stall (holding (.noPend [.status0]) .stall sInit) := by
  decide
theorem witness_RtcSetters :
    (let s := initRtc fun r => { r with posted := { noWrites with countHi := some 1#16 } }
     s.rtcd.initialized = true ∧ AtStart s ∧ s.rtcd.safeWrite = true ∧ s.rtc.posted.countHi ≠ none) ∧
    (Reaches (.noPend [.countLo, .countHi]) .stall sInit ∧ sInit.rtc.status.getLsbD 2 = false) ∧
    (Reaches (.noPend [.countLo, .countHi]) .stall (holding (.noPend [.countLo, .countHi]) .stall sFs) ∧
      sFs.rtc.status.getLsbD 2 = true ∧ sFs.rtc.posted.status0 = none ∧ sFs.rtcd.initialized = true) ∧
    (let s := { sFs with rtc := { sFs.rtc with posted := { noWrites with status0 := some 4#16 } } }
     Reaches (.noPend [.countLo, .countHi]) .stall s ∧ s.rtc.status.getLsbD 2 = true ∧ s.rtcd.initialized = true ∧
       s.rtcd.safeWrite = true ∧ s.rtc.posted.status0 ≠ none) ∧
    (let s := { initRtc (fun r => { r with posted := { noWrites with countHi := some 1#16 } }) with
       rtcd := { sInit.rtcd with safeWrite := false } }
     AtStart s ∧ s.rtcd.initialized = true ∧ s.rtcd.safeWrite = false ∧ s.rtc.posted.countHi ≠ none) ∧
    Resumes (.noPend [.status0]) .statusStall (holding (.noPend [.status0]) .statusStall sFs) ∧
    Resumes (.noPend [.alarmLo, .alarmHi]) .stall (holding (.noPend [.alarmLo, .alarmHi]) .stall sInit) ∧
    Resumes (.noPend [.trim]) .stall (holding (.noPend [.trim]) .stall sInit) := by
  decide
theorem witness_RtcSlowDomainEvents :
    (let s := initRtc fun r => { r with posted := { noWrites with trim := some 5#16 } }
     s.rtc.oscOn = true ∧ s.rtc.posted.get .trim = some 5#16 ∧ s.rtc.inflight.get .trim = none) ∧
    (initRtc fun r => { r with inflight := { noWrites with trim := some 5#16 } }).rtc.inflight.get .trim = some 5#16 ∧
    sInit.rtc.control.getLsbD 0 = true := by
  decide
theorem witness_RtcFailsafeLatch :
    sInit.cfg.rtcDomainIndep = true ∧ sInit.rtc.oscOn = true ∧
    (State.reset.cfg.rtcDomainIndep = true ∧ State.reset.rtc.oscOn = false ∧ State.reset.cfg.latchNeedsOsc = false) ∧
    (withTape [2, 0xDEADBEEF, 0, 0, 0, 7] sInit).env.tape =
      (2#2).toNat :: (0xDEADBEEF#32).toNat :: (0#32).toNat :: (0#16).toNat :: (0#16).toNat :: (7#3).toNat :: [] := by
  decide
theorem witness_RtcIsr :
    (let s := initRtc fun r => { r with status := 1#16, control := 0x0011#16 }
     MayStart .rtc (rtcReq s) s) ∧
    (let s := { sInit with hnd := some { handler := .rtcIsr, point := .stall 1#16 } }
     s.hnd = some { handler := .rtcIsr, point := .stall 1#16 } ∧ s.rtc.posted.status0 = none) := by
  decide

theorem witness_I2cHandleGate :
    i2cHandleOf (.i2cGetGeneralCall 1#8) = some (1#8, [.slave]) ∧ AtStart sM ∧
    i2cHandleOf (.i2cGetGeneralCall 0#8) = some (0#8, [.slave]) ∧
    (AtStart State.reset ∧ State.reset.i2cd.mode = .uninitialized) ∧
    (sM.i2cd.mode ≠ .uninitialized ∧ sM.i2cd.mode ∉ [Mode.slave]) := by
  decide
theorem witness_CompletionOnce :
    sM.i2cd.complete = true ∧ ({ sM with i2cd := { sM.i2cd with complete := false } } : State).i2cd.complete = false := by
  decide
/-- For I2cInits, I2cUnInit, I2cSetters, I2cSetDmaMode and I2cStatusOperations. -/
theorem witness_i2c_lifecycle :
    (AtStart State.reset ∧ State.reset.i2cd.mode = .uninitialized) ∧
    (AtStart sM ∧ sM.i2cd.mode ≠ .uninitialized ∧ sM.m.busy = false ∧ sM.sl.busy = false ∧ sM.i2cd.complete = true ∧
      sM.i2cd.dmaOwned = false ∧ sM.i2cd.blocking = true) ∧
    (AtStart sMdma ∧ sMdma.i2cd.mode ≠ .uninitialized ∧ sMdma.m.busy = false ∧ sMdma.sl.busy = false ∧
      sMdma.i2cd.complete = true ∧ sMdma.i2cd.dmaOwned = true ∧ sMdma.i2cd.dma = true ∧ true = sMdma.i2cd.dma) ∧
    (AtStart sMisr ∧ sMisr.m.busy = true) ∧
    (let s := { sSnb with i2cd := { sSnb.i2cd with complete := false } }
     AtStart s ∧ s.i2cd.mode = .slave ∧ s.i2cd.complete = false) ∧
    (sSnb.i2cd.mode = .slave ∧ sSnb.i2cd.complete = true ∧ sSnb.i2cd.blocking = false ∧ true ≠ sSnb.i2cd.dma) := by
  decide
theorem witness_MasterTransferChecks :
    (AtStart sM ∧ sM.i2cd.mode = .master ∧ 4 < (5#8).toNat ∧ (4#8).toNat ≤ 4 ∧ sM.i2cd.tenBit = false ∧
      0x80 ≤ (0x80#16).toNat ∧ addressTooLarge sM.i2cd.tenBit 0x7F#16 = false) ∧
    (MasterOpen 0x50#16 1#8 1#16 sMdma ∧ sMdma.i2cd.engine = .dma ∧ 0 < (1#8).toNat) ∧
    (MasterOpen 0x50#16 4#8 1#16 sMisr ∧ sMisr.i2cd.engine = .pio ∧ sMisr.m.busy = true) := by
  decide
theorem witness_MasterTransmit :
    (Reaches .masterIdle .idle sM ∧ MasterOpen 0x50#16 4#8 1#16 sM ∧ 1 ≤ sM.cfg.fifoDepth ∧ sM.i2cd.engine = .pio) ∧
    Reaches .masterIdle .idle (holding .masterIdle .idle sM) ∧
    (MasterOpen 0x7F#16 0#8 0xFFFF#16 sM ∧ declared sM 0x20000003#32 = true ∧ declared sM 0x20000004#32 = false) ∧
    (Reaches .masterIdle .idle sMdma ∧ MasterOpen 0x50#16 0#8 1#16 sMdma ∧ sMdma.i2cd.engine = .dma) ∧
    (let s := holding .signalled .done { sM with i2cd := { sM.i2cd with sem := true } }
     Resumes .signalled .done s) := by
  decide
theorem witness_MasterReceive :
    (Reaches .masterIdle .idle sM ∧ MasterOpen 0x50#16 0#8 257#16 sM ∧ sM.i2cd.engine = .pio) ∧
    (Reaches .masterIdle .idle sMdma ∧ MasterOpen 0x50#16 0#8 256#16 sMdma ∧ sMdma.i2cd.engine = .dma) ∧
    (let s := holding .signalled .done { sM with i2cd := { sM.i2cd with sem := true } }
     Resumes .signalled .done s) := by
  decide
theorem witness_MasterReceiveWithAddress :
    0 < (1#8).toNat ∧
    (Reaches .masterIdle .subIdle sM ∧ MasterOpen 0x50#16 1#8 1#16 sM ∧ 1 ≤ sM.cfg.fifoDepth ∧
      sM.i2cd.engine = .pio) ∧
    (let s := holding .signalled .subDone { sM with i2cd := { sM.i2cd with sem := true, result := .masterAlost } }
     Resumes .signalled .subDone s ∧ s.i2cd.result ≠ .success) ∧
    (let s := holding .signalled .subDone { sMisr with i2cd := { sMisr.i2cd with sem := true } }
     Resumes .signalled .subDone s ∧ s.i2cd.result = .success ∧ s.m.busy = true) ∧
    (let s := holding .signalled .subDone { sM with i2cd := { sM.i2cd with sem := true } }
     Resumes .signalled .subDone s ∧ s.i2cd.result = .success ∧ s.m.busy = false ∧ s.i2cd.engine = .pio) ∧
    Resumes .masterIdle .idle (holding .masterIdle .idle sM) := by
  decide
theorem witness_SlaveTransferChecks :
    (let s := { sS with i2cd := { sS.i2cd with gcPending := true } }
     AtStart s ∧ s.i2cd.mode = .slave ∧ s.i2cd.gcPending = true) ∧
    (let s := { sS with i2cd := { sS.i2cd with slaveId := 0x80#10 } }
     AtStart s ∧ s.i2cd.mode = .slave ∧ s.i2cd.gcPending = false ∧ s.i2cd.tenBit = false ∧
       0x80 ≤ s.i2cd.slaveId.toNat) ∧
    (AtStart sS ∧ sS.i2cd.gcPending = false ∧ ¬(sS.i2cd.tenBit = false ∧ 0x80 ≤ sS.i2cd.slaveId.toNat)) ∧
    (SlaveOpen 1#16 sSisr ∧ sSisr.sl.busy = true ∧ sSisr.sl.clockHold = false) ∧
    (let s := holding .signalled .done { sS with i2cd := { sS.i2cd with sem := true } }
     Resumes .signalled .done s) := by
  decide
/-- For SlaveTransmit and SlaveReceive, in PIO and in DMA mode. -/
theorem witness_slave_transfers :
    (Reaches .slaveIdle .idle sS ∧ SlaveOpen 4#16 sS ∧ sS.i2cd.engine = .pio ∧
      (∀ k < min (4#16).toNat sS.cfg.fifoDepth, declared sS (0x20000000#32 + BitVec.ofNat 32 k) = true)) ∧
    (∃ k < min (2#16).toNat sS.cfg.fifoDepth, declared sS (0x20000003#32 + BitVec.ofNat 32 k) = false) ∧
    (let s := holding .slaveIdle .idle { sSnb with i2cd := { sSnb.i2cd with dma := true, engine := .dma } }
     Reaches .slaveIdle .idle s ∧ SlaveOpen 1#16 s ∧ s.i2cd.engine = .dma) := by
  decide
theorem witness_WriteAdr1 :
    sMisr.m.busy = true ∧ (State.reset.m.busy = false ∧ State.reset.m.en = false) ∧
    (sM.m.busy = false ∧ sM.m.en = true) := by
  decide
theorem witness_MasterAddressAndEndEvents :
    (let s := masterWith fun m => { m with busy := true, phase := .addrWait }
     s.m.busy = true ∧ s.m.phase = .addrWait) ∧
    (sMisr.m.busy = true ∧ sMisr.m.phase = .data ∧ sMisr.m.dir = .W ∧ sMisr.m.txf = []) ∧
    (let s := masterWith (inData .R)
     s.m.busy = true ∧ s.m.phase = .data ∧ s.m.dir = .R ∧ s.m.nrx = s.m.rxTarget) := by
  decide
theorem witness_MasterDataEvents :
    (let s := masterWith fun m => { inData .W m with txf := [1#8] }
     s.m.busy = true ∧ s.m.phase = .data ∧ s.m.dir = .W ∧ s.m.txf = 1#8 :: []) ∧
    (let s := masterWith fun m => { inData .R m with rxTarget := 2, nrx := 1, rxf := [1#8] }
     s.m.busy = true ∧ s.m.phase = .data ∧ s.m.dir = .R ∧ s.m.nrx < s.m.rxTarget ∧
       s.m.rxf.length < s.cfg.fifoDepth) := by
  decide
theorem witness_MasterIsrError :
    let s := masterWith fun m => { m with nackD := true, ie := { MasterIe.none with nackD := true } }
    MayStart .i2cm (masterReq s) s ∧ s.m.nackD = true := by
  decide
theorem witness_MasterIsrService :
    (let s := masterWith fun m => { m with tcomp := true, ie := { MasterIe.none with tcomp := true } }
     MayStart .i2cm (masterReq s) s ∧ s.m.alost = false ∧ s.m.nackA = false ∧ s.m.nackD = false ∧
       fifoReqM s = false) ∧
    (MayStart .i2cm (masterReq sMisr) sMisr ∧ fifoReqM sMisr = true ∧ sMisr.i2cd.engine = .pio ∧
      sMisr.i2cd.rxRem = 0 ∧ sMisr.i2cd.daw = 0 ∧ sMisr.i2cd.txRem = 0) ∧
    (let s := { sMisr with i2cd := { sMisr.i2cd with dma := true, engine := .dma } }
     MayStart .i2cm (masterReq s) s ∧ fifoReqM s = true ∧ s.i2cd.engine = .dma) ∧
    (let s := { sMisr with i2cd := { sMisr.i2cd with daw := 4 } }
     MayStart .i2cm (masterReq s) s ∧ fifoReqM s = true ∧ s.i2cd.rxRem = 0 ∧ 0 < s.i2cd.daw ∧
       s.m.txf.length < s.cfg.fifoDepth) ∧
    (let s := { sMisr with i2cd := { sMisr.i2cd with txRem := 1, txPtr := 0x20000003#32 } }
     MayStart .i2cm (masterReq s) s ∧ fifoReqM s = true ∧ s.i2cd.daw = 0 ∧ 0 < s.i2cd.txRem ∧
       s.m.txf.length < s.cfg.fifoDepth ∧ declared s s.i2cd.txPtr = true) ∧
    (let s := masterWith fun m => { m with rxf := [7#8], ie := { MasterIe.none with rxreq := true } }
     let u := { s with i2cd := { s.i2cd with rxRem := 1, rxPtr := 0x20000107#32 } }
     MayStart .i2cm (masterReq u) u ∧ fifoReqM u = true ∧ u.i2cd.engine = .pio ∧ 0 < u.i2cd.rxRem ∧
       u.m.rxf = 7#8 :: [] ∧ declared u u.i2cd.rxPtr = true) := by
  decide
/-- A receive with nothing in its FIFO while the transmit request is on, a push to a full FIFO, and accesses outside the
regions. -/
theorem witness_MasterIsrService_edges :
    (let s := { sMisr with i2cd := { sMisr.i2cd with rxRem := 1 } }
     MayStart .i2cm (masterReq s) s ∧ fifoReqM s = true ∧ s.i2cd.engine = .pio ∧ 0 < s.i2cd.rxRem ∧ s.m.rxf = []) ∧
    (let s := masterWith fun m =>
       { m with txf := [1#8, 2#8], rxf := [3#8], ie := { MasterIe.none with rxreq := true } }
     let u := { s with i2cd := { s.i2cd with daw := 1 } }
     MayStart .i2cm (masterReq u) u ∧ fifoReqM u = true ∧ u.i2cd.engine = .pio ∧ u.i2cd.rxRem = 0 ∧ 0 < u.i2cd.daw ∧
       u.cfg.fifoDepth ≤ u.m.txf.length) ∧
    (let s := masterWith fun m => { m with rxf := [7#8], ie := { MasterIe.none with rxreq := true } }
     let u := { s with i2cd := { s.i2cd with rxRem := 1, rxPtr := 0x20000108#32 } }
     MayStart .i2cm (masterReq u) u ∧ fifoReqM u = true ∧ 0 < u.i2cd.rxRem ∧ u.m.rxf ≠ [] ∧
       declared u u.i2cd.rxPtr = false) ∧
    (let s := { sMisr with i2cd := { sMisr.i2cd with txRem := 1, txPtr := 0x20000004#32 } }
     MayStart .i2cm (masterReq s) s ∧ fifoReqM s = true ∧ s.i2cd.rxRem = 0 ∧ s.i2cd.daw = 0 ∧ 0 < s.i2cd.txRem ∧
       declared s s.i2cd.txPtr = false) := by
  decide
theorem witness_SlaveAddressEvents :
    (let s := slaveWith fun h => { h with en := true }
     s.sl.en = true ∧ s.sl.busy = false) ∧
    (sSisr.sl.busy = true ∧ sSisr.sl.clockHold = false ∧ sSisr.sl.repstart = false) := by
  decide
theorem witness_SlaveDataEvents :
    (sSisr.sl.busy = true ∧ sSisr.sl.clockHold = false ∧ sSisr.sl.repstart = false ∧ sSisr.sl.dir = .W ∧
      sSisr.sl.rxf.length < sSisr.cfg.fifoDepth) ∧
    (let s := slaveWith fun h => { inTransfer .R h with txf := [7#8] }
     s.sl.busy = true ∧ s.sl.dir = .R ∧ s.sl.txf = 7#8 :: []) ∧
    (let s := withTape [0xFF] (slaveWith (inTransfer .R))
     s.sl.busy = true ∧ s.sl.dir = .R ∧ s.sl.txf = [] ∧ s.env.tape = (0xFF#8).toNat :: []) := by
  decide
theorem witness_SlaveIsrFifo :
    (let s := sReceiving 1 0x20000107#32
     MayStart .i2cs (slaveReq s) s ∧ NoSlaveLatch s ∧ SlaveAccessDeclared s ∧ storesByte s = true ∧
       countExhausted s = true) ∧
    (MayStart .i2cs (slaveReq sSisr) sSisr ∧ NoSlaveLatch sSisr ∧ SlaveAccessDeclared sSisr ∧ rxDue sSisr = true ∧
      storesByte sSisr = false) ∧
    (MayStart .i2cs (slaveReq sBothDue) sBothDue ∧ NoSlaveLatch sBothDue ∧ SlaveAccessDeclared sBothDue ∧
      storesByte sBothDue = true ∧ sendsByte sBothDue = true) ∧
    (let s := sReceiving 1 0x20000108#32
     MayStart .i2cs (slaveReq s) s ∧ ¬SlaveAccessDeclared s) := by
  decide
theorem witness_SlaveIsrLatched :
    (let s := slaveWith fun h => { h with stop := true, ie := { SlaveIe.none with stop := true } }
     MayStart .i2cs (slaveReq s) s ∧ ¬NoSlaveLatch s ∧ SlaveAccessDeclared s ∧ s.i2cd.engine = .pio) ∧
    (let t := sReceiving 1 0x20000107#32
     let s := { t with sl := { t.sl with repstart := true } }
     MayStart .i2cs (slaveReq s) s ∧ ¬NoSlaveLatch s ∧ SlaveAccessDeclared s ∧ countExhausted s = true) ∧
    (∀ c ∈ [Chan.stx, .srx],
      let t := slaveWith fun h => { inTransfer .R h with repstart := true, ie := { SlaveIe.none with repstart := true } }
      let s :=
        { t with i2cd := { t.i2cd with dma := true, engine := .dma, complete := false, curCh := c, dmaOwned := true } }
      MayStart .i2cs (slaveReq s) s ∧ ¬NoSlaveLatch s ∧ SlaveAccessDeclared s ∧ s.i2cd.engine = .dma ∧
        s.i2cd.complete = false ∧ s.i2cd.curCh = c) := by
  decide
theorem witness_DmaStart : 1 ≤ 5 ∧ 1 ≤ sMdma.cfg.dmaMax := by decide
theorem witness_DmaChunks : 1 ≤ sDma.i2cd.unsched ∧ 1 ≤ sDma.cfg.dmaMax := by decide
theorem witness_DmaXfer :
    ((sDma.dma.get .m).enabled = true ∧ (curDesc sDma .m).mode = .pingpong ∧ dmaReq sDma .m = true ∧
      declared sDma (curDesc sDma .m).ptr = true ∧ (curDesc sDma .m).toPeriph = true ∧
      sDma.m.txf.length < sDma.cfg.fifoDepth) ∧
    (let s := dmaStart .m 0x20000004#32 1 { sMdma with m := { sMdma.m with dmaTx := true } }
     (s.dma.get .m).enabled = true ∧ (curDesc s .m).mode = .pingpong ∧ dmaReq s .m = true ∧
       declared s (curDesc s .m).ptr = false ∧ (curDesc s .m).toPeriph = true) ∧
    (let s := dmaStart .srx 0x20000100#32 1 { sSnb with sl := { sSnb.sl with dmaRx := true, rxf := [7#8] } }
     (s.dma.get .srx).enabled = true ∧ (curDesc s .srx).mode = .pingpong ∧ dmaReq s .srx = true ∧
       declared s (curDesc s .srx).ptr = true ∧ (curDesc s .srx).toPeriph = false ∧ s.sl.rxf = 7#8 :: []) ∧
    (let s := dmaStart .stx 0x20000000#32 1 { sSnb with sl := { sSnb.sl with dmaTx := true } }
     (s.dma.get .stx).enabled = true ∧ (curDesc s .stx).mode = .pingpong ∧ dmaReq s .stx = true ∧
       declared s (curDesc s .stx).ptr = true ∧ (curDesc s .stx).toPeriph = true) ∧
    (let s := dmaStart .m 0x20000100#32 1
       { sMdma with m := { sMdma.m with dmaRx := true, rxf := [7#8] }, i2cd := { sMdma.i2cd with sharedIsRx := true } }
     (s.dma.get .m).enabled = true ∧ (curDesc s .m).mode = .pingpong ∧ dmaReq s .m = true ∧
       declared s (curDesc s .m).ptr = true ∧ (curDesc s .m).toPeriph = false ∧ s.m.rxf = 7#8 :: []) := by
  decide

/-- `sDma` with its channel's completion latched and the given slots. -/
def dmaDone (pri alt : CycleMode) (next : Slot) : State :=
  { sDma with
    dma :=
      { sDma.dma with
        m :=
          { sDma.dma.m with
            pri := { sDma.dma.m.pri with mode := pri }, alt := { sDma.dma.m.alt with mode := alt }, done := true } }
    i2cd := { sDma.i2cd with nextSlot := next } }

theorem witness_DmaIsr :
    (∀ p ∈ [CycleMode.invalid, .pingpong], ∀ a ∈ [CycleMode.invalid, .pingpong], ∀ n ∈ [Slot.pri, .alt],
      let s := dmaDone p a n
      MayStart (lineOfChan .m) (s.dma.get .m).done s ∧ s.i2cd.dmaOwned = true ∧ Chan.m = s.i2cd.curCh ∧
        (s.dma.get .m).pri.mode = p ∧ (s.dma.get .m).alt.mode = a ∧ s.i2cd.nextSlot = n) ∧
    (let s := { dmaDone .pingpong .pingpong .pri with i2cd := { sDma.i2cd with dmaOwned := false } }
     MayStart (lineOfChan .m) (s.dma.get .m).done s ∧ s.i2cd.dmaOwned = false) := by
  decide

end Sys2Proof.Tests
end

/-! The main context's steps: every operation is one `mainStep`, and a `mainStep` that may not go on changes nothing
(00_scope.md R13, 60_exceptions.md R535, R544). -/

namespace Sys2Proof.Machine

/-- R535: during a handler invocation the main context has no step. -/
theorem mainStep_of_handler_active {start : State → Run} {resume : Point → State → Run} {s : State}
    (hactive : s.hnd.isSome = true) : mainStep start resume s = .next s := by
  rw [mainStep, if_pos hactive]

/-- R13: `await` goes on only when its condition holds; until then the operation stays where it is. -/
theorem mainStep_of_await_unmet {start : State → Run} {resume : Point → State → Run} {s : State} {c : Await}
    {p : Point} (hk : s.main.k = .hold c p) (hunmet : c.holds s = false) : mainStep start resume s = .next s := by
  by_cases hactive : s.hnd.isSome = true
  · exact mainStep_of_handler_active hactive
  · simp [mainStep, hactive, hk, hunmet]

/-- Every operation is a `mainStep` of a start and a resumption that do not depend on the state it runs at, so what
holds of every `mainStep` holds of every operation (30_encoding.md R140: class 000 or 010). -/
theorem exec_operation_eq_mainStep {i : Instr} (hop : isOperation i = true) :
    ∃ start resume, ∀ s, exec i s = mainStep start resume s := by
  cases i with
  | rtcAccept | rtcCommit | rtcSecond | rtcFailsafeLatch => simp [isOperation, opcodeOf] at hop
  | mAddrAck | mAddrNack | mTxByteAck | mTxByteNack | mTxEnd | mRxByte | mRxEnd | mAlost => simp [isOperation, opcodeOf] at hop
  | sAddrMatch | sRxByte | sTxByte | sTxUnderflow | sRepstart | sStop | sGcall => simp [isOperation, opcodeOf] at hop
  | rtcIsr | i2cmIsr | i2csIsr | dmaIsr | dmaXfer => simp [isOperation, opcodeOf] at hop
  | _ => exact ⟨_, _, fun _ => rfl⟩

/-- Settles O8: the operation is a `mainStep`, and neither reason for waiting lets a `mainStep` go on. -/
theorem mainContextHolds : Obligations.MainContextHolds := by
  intro i s hop hwait
  obtain ⟨start, resume, hexec⟩ := exec_operation_eq_mainStep hop
  rw [hexec]
  rcases hwait with hactive | ⟨c, p, hk, hunmet⟩
  · exact mainStep_of_handler_active hactive
  · exact mainStep_of_await_unmet hk hunmet

end Sys2Proof.Machine

/-! What one step of an agent may do to the state, as three relations between the state before and the state after. Each
is reflexive and transitive, so an operation's meaning is shown to stay within one of them by going through the named
operations it is made of, and every claim about all steps is read off the relations (10_state.md R89, R31, R77, R88). -/

namespace Sys2Proof.Machine

/-! ### The three relations -/

/-- The results of `b` are those of `a` and one more for each place that `main.pc` has advanced (10_state.md R31). -/
def Returned (a b : MainCtx) : Prop :=
  ∃ rs : List ResultRecord, b.results = a.results ++ rs ∧ b.pc = a.pc + rs.length

theorem Returned.of_eq {a b : MainCtx} (hr : b.results = a.results) (hp : b.pc = a.pc) : Returned a b :=
  ⟨[], by simp [hr], by simp [hp]⟩

theorem Returned.trans {a b c : MainCtx} : Returned a b → Returned b c → Returned a c := by
  rintro ⟨rs, hr, hp⟩ ⟨qs, hr', hp'⟩
  exact ⟨rs ++ qs, by simp [hr, hr'], by simp [hp, hp', Nat.add_assoc]⟩

theorem Returned.results_prefix {a b : MainCtx} (h : Returned a b) : a.results <+: b.results := by
  obtain ⟨rs, hr, _⟩ := h
  exact ⟨rs, hr.symm⟩

/-- The logs, with the count of the results (10_state.md R31, R77, R88). -/
def logsOf (s : State) : List BusEvent × List (Byte × U32) × List ResultRecord × Nat :=
  (s.trace, s.cblog, s.main.results, s.main.pc)

/-- The logs are only appended to, and the results are counted by `main.pc`. -/
structure LogsGrow (s t : State) : Prop where
  trace : s.trace <+: t.trace
  cblog : s.cblog <+: t.cblog
  main : Returned s.main t.main

theorem LogsGrow.of_eq {s t : State} (h : logsOf t = logsOf s) : LogsGrow s t := by
  simp only [logsOf, Prod.mk.injEq] at h
  obtain ⟨htrace, hcblog, hresults, hpc⟩ := h
  exact ⟨by rw [htrace], by rw [hcblog], .of_eq hresults hpc⟩

theorem LogsGrow.trans {s t u : State} (h : LogsGrow s t) (h' : LogsGrow t u) : LogsGrow s u :=
  ⟨h.trace.trans h'.trace, h.cblog.trans h'.cblog, h.main.trans h'.main⟩

/-- Everything that no agent writes merely by holding, returning, calling back or marking. -/
def devicesOf (s : State) :
    Params × RtcHw × RtcDriver × MasterHw × SlaveHw × I2cDriver × List BusEvent × DmaHw × Nvic × Memory :=
  (s.cfg, s.rtc, s.rtcd, s.m, s.sl, s.i2cd, s.trace, s.dma, s.nvic, s.mem)

/-- What the RTC group leaves alone (10_state.md R89): the parameters and the state of the I2C group, the bus trace and
every line enable but its own. -/
def outsideRtc (s : State) :
    Params × MasterHw × SlaveHw × I2cDriver × List BusEvent × DmaHw × Nvic × Memory :=
  (s.cfg, s.m, s.sl, s.i2cd, s.trace, s.dma, { s.nvic with rtc := false }, s.mem)

/-- What the I2C group leaves alone (10_state.md R89): the parameters and the state of the RTC group. -/
def outsideI2c (s : State) : Params × RtcHw × RtcDriver × Bool := (s.cfg, s.rtc, s.rtcd, s.nvic.rtc)

/-- The RTC registers with undefined bits (10_state.md R34, R35, R38). -/
def maskedOf (s : State) : U16 × U16 × U16 := (s.rtc.control, s.rtc.status, s.rtc.trim)

/-- The four FIFOs (10_state.md R53, R61). -/
def fifosOf (s : State) : List Byte × List Byte × List Byte × List Byte := (s.m.txf, s.m.rxf, s.sl.txf, s.sl.rxf)

/-- The transfer mode (10_state.md R67). -/
def modeOf (s : State) : Engine × Bool × Bool := (s.i2cd.engine, s.i2cd.dma, s.i2cd.blocking)

/-- Only the handler, the main context, the callback log, the model's marks and the environment may change. -/
structure KeepsDevices (s t : State) : Prop where
  devices : devicesOf t = devicesOf s
  logs : LogsGrow s t

/-- What the RTC group may do: it keeps what is outside it, and the undefined bits of its registers. -/
structure RtcEvolves (s t : State) : Prop where
  outside : outsideRtc t = outsideRtc s
  logs : LogsGrow s t
  reserved : ReservedBitsZero s → ReservedBitsZero t

/-- What the I2C group may do: it keeps what is outside it, the FIFOs within their depth, and the engine in agreement
with the DMA mode. -/
structure I2cEvolves (s t : State) : Prop where
  outside : outsideI2c t = outsideI2c s
  logs : LogsGrow s t
  fifos : FifosWithinDepth s → FifosWithinDepth t
  engine : EngineMatchesMode s → EngineMatchesMode t

theorem KeepsDevices.of_eq {s t : State} (h : (devicesOf t, logsOf t) = (devicesOf s, logsOf s)) : KeepsDevices s t :=
  ⟨congrArg Prod.fst h, .of_eq (congrArg Prod.snd h)⟩

/-- A change of nothing that the relation looks at: of a named update of other fields, the hypothesis is true by `rfl`
(written `by rfl` where the update is only known once the rest of the term is). -/
theorem RtcEvolves.of_eq {s t : State}
    (h : (outsideRtc t, logsOf t, maskedOf t) = (outsideRtc s, logsOf s, maskedOf s)) : RtcEvolves s t := by
  simp only [Prod.mk.injEq] at h
  obtain ⟨houtside, hlogs, hmasked⟩ := h
  refine ⟨houtside, .of_eq hlogs, ?_⟩
  simp only [maskedOf, outsideRtc, Prod.mk.injEq] at hmasked houtside
  simp only [ReservedBitsZero, hmasked, houtside, imp_self]

/-- A change of nothing that the relation looks at, as for `RtcEvolves.of_eq`. -/
theorem I2cEvolves.of_eq {s t : State}
    (h : (outsideI2c t, logsOf t, fifosOf t, modeOf t) = (outsideI2c s, logsOf s, fifosOf s, modeOf s)) :
    I2cEvolves s t := by
  simp only [Prod.mk.injEq] at h
  obtain ⟨houtside, hlogs, hfifos, hmode⟩ := h
  refine ⟨houtside, .of_eq hlogs, ?_, ?_⟩
  · simp only [fifosOf, outsideI2c, Prod.mk.injEq] at hfifos houtside
    simp only [FifosWithinDepth, hfifos, houtside, imp_self]
  · simp only [modeOf, Prod.mk.injEq] at hmode
    simp only [EngineMatchesMode, hmode, imp_self]

theorem RtcEvolves.trans {s t u : State} (h : RtcEvolves s t) (h' : RtcEvolves t u) : RtcEvolves s u :=
  ⟨h'.outside.trans h.outside, h.logs.trans h'.logs, h'.reserved ∘ h.reserved⟩

theorem I2cEvolves.trans {s t u : State} (h : I2cEvolves s t) (h' : I2cEvolves t u) : I2cEvolves s u :=
  ⟨h'.outside.trans h.outside, h.logs.trans h'.logs, h'.fifos ∘ h.fifos, h'.engine ∘ h.engine⟩

theorem KeepsDevices.rtcEvolves {s t : State} (h : KeepsDevices s t) : RtcEvolves s t := by
  obtain ⟨hdevices, hlogs⟩ := h
  simp only [devicesOf, Prod.mk.injEq] at hdevices
  exact ⟨by simp only [outsideRtc, hdevices], hlogs, by simp only [ReservedBitsZero, hdevices, imp_self]⟩

theorem KeepsDevices.i2cEvolves {s t : State} (h : KeepsDevices s t) : I2cEvolves s t := by
  obtain ⟨hdevices, hlogs⟩ := h
  simp only [devicesOf, Prod.mk.injEq] at hdevices
  exact ⟨by simp only [outsideI2c, hdevices], hlogs, by simp only [FifosWithinDepth, hdevices, imp_self],
    by simp only [EngineMatchesMode, hdevices, imp_self]⟩

/-! ### The steps of an agent that stays within a relation -/

/-- A transitive relation that allows what every agent does beside its devices: holding, returning, marking. -/
structure AgentRelation (R : State → State → Prop) : Prop where
  trans : ∀ {s t u : State}, R s t → R t u → R s u
  of_keepsDevices : ∀ {s t : State}, KeepsDevices s t → R s t

theorem rtcAgent : AgentRelation RtcEvolves := ⟨RtcEvolves.trans, KeepsDevices.rtcEvolves⟩

theorem i2cAgent : AgentRelation I2cEvolves := ⟨I2cEvolves.trans, KeepsDevices.i2cEvolves⟩

/-- Pseudocode in two parts runs to its end when each part does. -/
theorem except_bind_ok {α β : Type} {x : Except Stop α} {f : α → Except Stop β} {b : β} (h : (x >>= f) = .ok b) :
    ∃ a, x = .ok a ∧ f a = .ok b := by
  cases x with
  | error e => cases h
  | ok a => exact ⟨a, rfl, h⟩

/-- Pseudocode that runs to its end leaves a state that `R` relates to `s`. -/
def RunsWithin (R : State → State → Prop) (s : State) (r : Run) : Prop := ∀ t, r = .ok t → R s t

/-- A step that has a next state has one that `R` relates to `s`. -/
def StepsWithin (R : State → State → Prop) (s : State) (r : Result) : Prop := ∀ t, r = .next t → R s t

section
variable {R : State → State → Prop} {s u : State}

theorem runsWithin_ok (h : R s u) : RunsWithin R s (.ok u) := by
  rintro t ⟨⟩
  exact h

theorem runsWithin_error (e : Stop) : RunsWithin R s (.error e) := by
  rintro t ⟨⟩

theorem runsWithin_ite {c : Prop} [Decidable c] {a b : Run} (ha : c → RunsWithin R s a) (hb : ¬c → RunsWithin R s b) :
    RunsWithin R s (if c then a else b) := by
  split
  · exact ha ‹c›
  · exact hb ‹¬c›

/-- The rest of the pseudocode runs on what its first part answers. -/
theorem runsWithin_bind {α : Type} {x : Except Stop α} {f : α → Run}
    (h : ∀ a, x = .ok a → RunsWithin R s (f a)) : RunsWithin R s (x >>= f) := by
  intro t ht
  obtain ⟨a, ha, hf⟩ := except_bind_ok ht
  exact h a ha t hf

/-- A function of the state that a run leaves. -/
theorem runsWithin_map {r : Run} {f : State → State} (h : ∀ t, r = .ok t → R s (f t)) :
    RunsWithin R s (r.map f) := by
  cases r with
  | error e => exact runsWithin_error e
  | ok t => exact runsWithin_ok (h t rfl)

theorem runsWithin_offPoint : RunsWithin R s (offPoint s) := runsWithin_error _

theorem runsWithin_noResume (p : Point) : RunsWithin R s (noResume p s) := runsWithin_error _

theorem runsWithin_resumeAt {q : Point} {f : State → Run} (p : Point) (h : RunsWithin R s (f s)) :
    RunsWithin R s (resumeAt q f p s) := by
  unfold resumeAt
  split
  · exact h
  · exact runsWithin_offPoint

end

namespace AgentRelation

variable {R : State → State → Prop} (hR : AgentRelation R) {s u : State}
include hR

theorem refl (s : State) : R s s := hR.of_keepsDevices (.of_eq rfl)

/-- What runs from `u` within `R` also runs within `R` from a state that `R` relates to `u`. -/
theorem runsWithin_trans {r : Run} (h : R s u) (hr : RunsWithin R u r) : RunsWithin R s r :=
  fun t ht => hR.trans h (hr t ht)

/-- A `return` adds its record and advances `main.pc` by one (30_encoding.md R143). -/
theorem ret (op : Byte) (code : ResultCode) (out : Outputs) (h : R s u) : R s (ret op code out u) :=
  hR.trans h (hR.of_keepsDevices ⟨rfl, List.prefix_rfl, List.prefix_rfl, [_], rfl, rfl⟩)

theorem retRtc (op : Byte) (c : RtcCode) (h : R s u) : RunsWithin R s (retRtc op c u) :=
  runsWithin_ok (hR.ret _ _ _ h)

theorem retValue (op : Byte) (v : U32) (h : R s u) : RunsWithin R s (retValue op v u) :=
  runsWithin_ok (hR.ret _ _ _ h)

theorem retI2c (op : Byte) (c : I2CCode) (h : R s u) : RunsWithin R s (retI2c op c u) :=
  runsWithin_ok (hR.ret _ _ _ h)

theorem callback (cb : Option Byte) (arg : U32) (s : State) : R s (callback cb arg s) := by
  cases cb with
  | none => exact hR.refl s
  | some f => exact hR.of_keepsDevices ⟨rfl, List.prefix_rfl, List.prefix_append _ _, .of_eq rfl rfl⟩

theorem awaitThen {c : Await} {p : Point} {rest : State → Run} (h : R s u) (hr : RunsWithin R u (rest u)) :
    RunsWithin R s (awaitThen c p rest u) := by
  unfold Machine.awaitThen
  split
  · exact hR.runsWithin_trans h hr
  · exact runsWithin_ok (hR.trans h (hR.of_keepsDevices (.of_eq (by rfl))))

theorem swStall {gs : List Group} {p : Point} {rest : State → Run} (h : R s u) (hr : RunsWithin R u (rest u)) :
    RunsWithin R s (swStall gs p rest u) := by
  unfold Machine.swStall
  split
  · exact hR.awaitThen h hr
  · exact hR.runsWithin_trans h hr

theorem drawnFrom {t : State} (h : DrawnFrom s t) : R s t := by
  obtain ⟨e, rfl, _, _⟩ := h
  exact hR.of_keepsDevices (.of_eq rfl)

/-- An operation whose start and resumption stay within `R` does so in every step of the main context. -/
theorem mainStep {start : State → Run} {resume : Point → State → Run} (hs : ∀ s, RunsWithin R s (start s))
    (hr : ∀ p s, RunsWithin R s (resume p s)) (s : State) : StepsWithin R s (mainStep start resume s) := by
  have henter : R s (enterCritical s) := hR.of_keepsDevices (.of_eq rfl)
  have hleave : ∀ t, R t (leaveCritical t) := fun _ => hR.of_keepsDevices (.of_eq rfl)
  have hsegment : ∀ r t, RunsWithin R (enterCritical s) r → r = .ok t → R s (leaveCritical t) := fun r t h ht =>
    hR.trans henter (hR.trans (h t ht) (hleave t))
  intro v hv
  rcases mainStep_next hv with rfl | ⟨t, ht, rfl⟩ | ⟨p, t, ht, rfl⟩ | ⟨f, rfl⟩ | ⟨c, rfl⟩ | rfl
  · exact hR.refl _
  · exact hsegment _ t (hs _) ht
  · exact hsegment _ t (hr p _) ht
  · exact hR.of_keepsDevices (.of_eq rfl)
  · exact hR.of_keepsDevices (.of_eq rfl)
  · exact hR.of_keepsDevices (.of_eq rfl)

theorem eventStep {enabled : State → Bool} {effect : State → Run} (h : ∀ s, RunsWithin R s (effect s)) (s : State) :
    StepsWithin R s (eventStep enabled effect s) := by
  intro v hv
  rcases eventStep_next hv with ⟨_, ht⟩ | ⟨f, rfl⟩ | ⟨c, rfl⟩
  · exact h s v ht
  · exact hR.of_keepsDevices (.of_eq rfl)
  · exact hR.of_keepsDevices (.of_eq rfl)

theorem handlerStep {h : Handler} {l : Line} {req : State → Bool} {body : State → Run}
    (hb : ∀ s, RunsWithin R s (body s)) (s : State) : StepsWithin R s (handlerStep h l req body s) := by
  intro v hv
  rcases handlerStep_next hv with ⟨_, t, ht, rfl⟩ | ⟨f, rfl⟩ | ⟨c, rfl⟩
  · have henter : R s (enterHandler h s) := hR.of_keepsDevices (.of_eq rfl)
    have hleave : R t (leaveHandler t) := hR.of_keepsDevices (.of_eq rfl)
    exact hR.trans henter (hR.trans (hb _ t ht) hleave)
  · exact hR.of_keepsDevices (.of_eq rfl)
  · exact hR.of_keepsDevices (.of_eq rfl)

theorem gate {op h : Byte} {fsExempt : Bool} {rest : State → Run} (hr : RunsWithin R s (rest s)) :
    RunsWithin R s (gate op h fsExempt rest s) := by
  unfold Machine.gate
  split
  · exact hR.retRtc _ _ (hR.refl s)
  split
  · exact hR.retRtc _ _ (hR.refl s)
  split
  · exact hR.retRtc _ _ (hR.refl s)
  · exact hr

theorem i2cGate {op h : Byte} {modes : List Mode} {rest : State → Run} (hr : RunsWithin R s (rest s)) :
    RunsWithin R s (i2cGate op h modes rest s) := by
  unfold Machine.i2cGate
  split
  · exact hR.retI2c _ _ (hR.refl s)
  split
  · exact hR.retI2c _ _ (hR.refl s)
  split
  · exact hr
  · exact hR.retI2c _ _ (hR.refl s)

theorem ifComplete {op : Byte} {rest : State → Run} (hr : RunsWithin R s (rest s)) :
    RunsWithin R s (ifComplete op rest s) := by
  unfold Machine.ifComplete
  split
  · exact hr
  · exact hR.retI2c _ _ (hR.refl s)

theorem checkMaster {op : Byte} {sid : U16} {daw : Byte} {size : U16} {rest : State → Run}
    (hr : RunsWithin R s (rest s)) : RunsWithin R s (checkMaster op sid daw size rest s) := by
  unfold Machine.checkMaster
  split
  · exact hR.retI2c _ _ (hR.refl s)
  split
  · exact hR.retI2c _ _ (hR.refl s)
  split
  · exact runsWithin_error _
  split
  · exact runsWithin_error _
  · exact hr

theorem slaveCheck {op : Byte} {size : U16} {rest : State → Run} (hr : RunsWithin R s (rest s)) :
    RunsWithin R s (slaveCheck op size rest s) := by
  unfold Machine.slaveCheck
  split
  · exact hR.retI2c _ _ (hR.refl s)
  split
  · exact runsWithin_error _
  · exact hr

end AgentRelation

end Sys2Proof.Machine

/-! The RTC group: its operations, slow-domain events and handler stay within `RtcEvolves` (10_state.md R89). -/

namespace Sys2Proof.Machine

open Sys2Proof.Cert

/-! ### Bits outside a mask -/

theorem or_outside_mask {a b mask : U16} (ha : a &&& ~~~mask = 0#16) (hb : b &&& ~~~mask = 0#16) :
    (a ||| b) &&& ~~~mask = 0#16 := by
  rw [BitVec.and_comm, BitVec.and_or_distrib_left, BitVec.and_comm, ha, BitVec.and_comm, hb, BitVec.or_zero]

theorem and_outside_mask {a mask : U16} (b : U16) (ha : a &&& ~~~mask = 0#16) : (a &&& b) &&& ~~~mask = 0#16 := by
  rw [BitVec.and_comm a, BitVec.and_assoc, ha, BitVec.and_zero]

theorem masked_outside_mask (v mask : U16) : (v &&& mask) &&& ~~~mask = 0#16 := by
  rw [BitVec.and_assoc, BitVec.and_not_self]
  exact BitVec.and_zero

/-- A loss of power sets FAILSAFE and draws ALARM and WERR; the bits above stay 0 (41_rtc_hw.md R276). -/
theorem failsafeStatus_outside_mask {old : U16} (flags : BitVec 2) (h : old &&& ~~~statusMask = 0#16) :
    failsafeStatus old flags &&& ~~~statusMask = 0#16 := by
  have hflags : ∀ f : BitVec 2, f.setWidth 16 &&& ~~~statusMask = 0#16 := by decide
  exact or_outside_mask (or_outside_mask (and_outside_mask _ h) rfl) (hflags flags)

/-! ### Writes to the RTC hardware -/

/-- A posted write can set WERR, a defined bit of the status group (20_memory.md R105). -/
theorem post_evolves (g : Group) (v : U16) (s : State) : RtcEvolves s (post g v s) := by
  rcases post_cases g v s with ⟨_, h⟩ | ⟨e, p, _, _, _, h⟩
  · rw [h]
    exact .of_eq rfl
  · rw [h]
    exact ⟨rfl, .of_eq rfl, fun ⟨hc, hs, ht⟩ => ⟨hc, or_outside_mask hs rfl, ht⟩⟩

theorem postSplit_evolves (lo hi : Group) (v : U32) (s : State) : RtcEvolves s (postSplit lo hi v s) :=
  (post_evolves lo _ s).trans (post_evolves hi _ _)

/-- A commit masks what it writes to the control and trim groups, and only clears bits of the status group
(20_memory.md R108, R109). -/
theorem applyWrite_evolves (g : Group) (v : U16) (s : State) :
    RtcEvolves s { s with rtc := applyWrite s.cfg.trimLayout g v s.rtc } := by
  cases g with
  | control => exact ⟨rfl, .of_eq rfl, fun ⟨_, hs, ht⟩ => ⟨masked_outside_mask v _, hs, ht⟩⟩
  | status0 => exact ⟨rfl, .of_eq rfl, fun ⟨hc, hs, ht⟩ => ⟨hc, and_outside_mask _ hs, ht⟩⟩
  | trim => exact ⟨rfl, .of_eq rfl, fun ⟨hc, hs, _⟩ => ⟨hc, hs, masked_outside_mask v _⟩⟩
  | countLo => exact .of_eq rfl
  | countHi => exact .of_eq rfl
  | alarmLo => exact .of_eq rfl
  | alarmHi => exact .of_eq rfl

theorem commitWrite_evolves (g : Group) (s : State) : RtcEvolves s (commitWrite g s) := by
  unfold commitWrite
  split
  · exact (applyWrite_evolves g _ s).trans (.of_eq (by rfl))
  · exact .of_eq rfl

/-- The alarm sets ALARM, a defined bit of the status group (41_rtc_hw.md R274). -/
theorem alarmCompare_evolves (s : State) : RtcEvolves s (alarmCompare s) := by
  unfold alarmCompare
  split
  · exact ⟨rfl, .of_eq rfl, fun ⟨hc, hs, ht⟩ => ⟨hc, or_outside_mask hs rfl, ht⟩⟩
  · exact .of_eq rfl

/-- A loss of power masks what it draws for the control and trim groups (41_rtc_hw.md R276). -/
theorem failsafeLatch_evolves (s : State) :
    RtcEvolves s { (drawRtc s).2 with rtc := failsafeLatched s.cfg.trimLayout (drawRtc s).1 s.rtc } := by
  obtain ⟨e, he, _, _⟩ := drawRtc_state s
  rw [he]
  exact ⟨rfl, .of_eq rfl, fun ⟨_, hs, _⟩ =>
    ⟨masked_outside_mask _ _, failsafeStatus_outside_mask _ hs, masked_outside_mask _ _⟩⟩

/-! ### The slow-domain events -/

theorem execRtcAccept_evolves (g : Group) (s : State) : StepsWithin RtcEvolves s (execRtcAccept g s) :=
  rtcAgent.eventStep (fun _ => runsWithin_ok (.of_eq (by rfl))) s

theorem execRtcCommit_evolves (g : Group) (s : State) : StepsWithin RtcEvolves s (execRtcCommit g s) :=
  rtcAgent.eventStep (fun s => runsWithin_ok (commitWrite_evolves g s)) s

theorem execRtcSecond_evolves (s : State) : StepsWithin RtcEvolves s (execRtcSecond s) :=
  rtcAgent.eventStep (fun _ => runsWithin_ok (RtcEvolves.trans (.of_eq (by rfl)) (alarmCompare_evolves _))) s

theorem execRtcFailsafeLatch_evolves (s : State) : StepsWithin RtcEvolves s (execRtcFailsafeLatch s) :=
  rtcAgent.eventStep (fun s => runsWithin_ok (failsafeLatch_evolves s)) s

/-! ### The handler -/

theorem rtcCallback_evolves (fired : U16) (s : State) : RtcEvolves s (rtcCallback fired s) := by
  unfold rtcCallback
  split
  · exact rtcAgent.callback _ _ s
  · exact .of_eq rfl

theorem rtcIsrClear_evolves (fired : U16) (s : State) : RtcEvolves s (rtcIsrClear fired s) :=
  (post_evolves .status0 fired s).trans (.of_eq (by rfl))

theorem rtcIsrStart_evolves (s : State) : RtcEvolves s (rtcIsrStart s) := by
  have hcb : RtcEvolves s (rtcCallback (rtcFired s) (enterHandler .rtcIsr s)) :=
    RtcEvolves.trans (.of_eq (by rfl)) (rtcCallback_evolves _ _)
  unfold rtcIsrStart
  dsimp only
  split
  · exact hcb.trans (.of_eq (by rfl))
  · exact hcb.trans (rtcIsrClear_evolves _ _)

theorem execRtcIsr_evolves (s : State) : StepsWithin RtcEvolves s (execRtcIsr s) := by
  unfold execRtcIsr
  split
  · exact rtcAgent.eventStep (fun s => runsWithin_ok (rtcIsrClear_evolves _ s)) s
  · exact rtcAgent.eventStep (fun s => runsWithin_ok (rtcIsrStart_evolves s)) s

/-! ### The operations -/

theorem ctlUpdatePost_evolves (op : Byte) (m : U16) (b : Bool) (s : State) :
    RunsWithin RtcEvolves s (ctlUpdatePost op m b s) :=
  rtcAgent.retRtc _ _ (post_evolves _ _ s)

theorem controlEnable_evolves (op h : Byte) (m : U16) (b : Bool) (s : State) :
    StepsWithin RtcEvolves s (controlEnable op h m b s) :=
  rtcAgent.mainStep
    (fun s => rtcAgent.gate (rtcAgent.swStall (rtcAgent.refl s) (ctlUpdatePost_evolves op m b s)))
    (fun p s => runsWithin_resumeAt p (ctlUpdatePost_evolves op m b s)) s

theorem gatedGetter_evolves (op h : Byte) (value : State → U32) (s : State) :
    StepsWithin RtcEvolves s (gatedGetter op h value s) :=
  rtcAgent.mainStep (fun s => rtcAgent.gate (rtcAgent.retValue _ _ (rtcAgent.refl s)))
    (fun p _ => runsWithin_noResume p) s

theorem pairedRead_evolves (op : Byte) (lo hi : Group) (s : State) :
    RunsWithin RtcEvolves s (pairedRead op lo hi s) :=
  rtcAgent.retValue _ _ (.of_eq (by rfl))

theorem rtcInitFinish_evolves (s : State) : RunsWithin RtcEvolves s (rtcInitFinish s) :=
  runsWithin_ok (rtcAgent.ret _ _ _ ((post_evolves .status0 _ s).trans (.of_eq (by rfl))))

theorem rtcInitControl_evolves (s : State) : RunsWithin RtcEvolves s (rtcInitControl s) :=
  rtcAgent.swStall (post_evolves .control _ s) (rtcInitFinish_evolves _)

theorem rtcInitStart_evolves (id : Byte) (s : State) : RunsWithin RtcEvolves s (rtcInitStart id s) := by
  unfold rtcInitStart
  split
  · exact rtcAgent.retRtc _ _ (rtcAgent.refl s)
  split
  · exact rtcAgent.retRtc _ _ (rtcAgent.refl s)
  dsimp only
  split
  · exact rtcAgent.retRtc _ _ (.of_eq (by rfl))
  · exact rtcAgent.swStall (.of_eq (by rfl)) (rtcInitControl_evolves _)

theorem execRtcInit_evolves (id : Byte) (s : State) : StepsWithin RtcEvolves s (execRtcInit id s) := by
  refine rtcAgent.mainStep (rtcInitStart_evolves id) (fun p s => ?_) s
  split
  · exact rtcInitControl_evolves s
  split
  · exact rtcInitFinish_evolves s
  · exact runsWithin_offPoint

theorem clearFailSafePost_evolves (s : State) : RunsWithin RtcEvolves s (clearFailSafePost s) :=
  rtcAgent.retRtc _ _ (post_evolves _ _ s)

theorem enableInterruptsLine_evolves (b : Bool) (s : State) : RunsWithin RtcEvolves s (enableInterruptsLine b s) :=
  rtcAgent.retRtc _ _ (.of_eq (by rfl))

theorem enableInterruptsPost_evolves (mask : U16) (b : Bool) (s : State) :
    RunsWithin RtcEvolves s (enableInterruptsPost mask b s) :=
  rtcAgent.runsWithin_trans (post_evolves _ _ s) (enableInterruptsLine_evolves b _)

theorem execRtcEnableInterrupts_evolves (h : Byte) (mask : U16) (b : Bool) (s : State) :
    StepsWithin RtcEvolves s (execRtcEnableInterrupts h mask b s) := by
  refine rtcAgent.mainStep (fun s => rtcAgent.gate ?_)
    (fun p s => runsWithin_resumeAt p (enableInterruptsPost_evolves mask b s)) s
  split
  · exact rtcAgent.retRtc _ _ (rtcAgent.refl s)
  split
  · exact rtcAgent.swStall (rtcAgent.refl s) (enableInterruptsPost_evolves mask b s)
  · exact enableInterruptsLine_evolves b s

theorem setCountClear_evolves (s : State) : RunsWithin RtcEvolves s (setCountClear s) :=
  rtcAgent.retRtc _ _ (post_evolves _ _ s)

theorem setCountPost_evolves (v : U32) (s : State) : RunsWithin RtcEvolves s (setCountPost v s) := by
  unfold setCountPost
  dsimp only
  split
  · exact rtcAgent.swStall (postSplit_evolves _ _ v s) (setCountClear_evolves _)
  · exact rtcAgent.retRtc _ _ (postSplit_evolves _ _ v s)

theorem execRtcSetCount_evolves (h : Byte) (v : U32) (s : State) :
    StepsWithin RtcEvolves s (execRtcSetCount h v s) := by
  refine rtcAgent.mainStep
    (fun s => rtcAgent.gate (rtcAgent.swStall (rtcAgent.refl s) (setCountPost_evolves v s))) (fun p s => ?_) s
  split
  · exact setCountPost_evolves v s
  split
  · exact setCountClear_evolves s
  · exact runsWithin_offPoint

theorem setAlarmPost_evolves (v : U32) (s : State) : RunsWithin RtcEvolves s (setAlarmPost v s) :=
  rtcAgent.retRtc _ _ (postSplit_evolves _ _ v s)

theorem setTrimPost_evolves (v : U16) (s : State) : RunsWithin RtcEvolves s (setTrimPost v s) :=
  rtcAgent.retRtc _ _ (post_evolves _ _ s)

theorem clearStatusPost_evolves (mask : U16) (s : State) : RunsWithin RtcEvolves s (clearStatusPost mask s) :=
  rtcAgent.retRtc _ _ (post_evolves _ _ s)

theorem execRtcClearInterruptStatus_evolves (h : Byte) (mask : U16) (s : State) :
    StepsWithin RtcEvolves s (execRtcClearInterruptStatus h mask s) := by
  refine rtcAgent.mainStep (fun s => rtcAgent.gate ?_)
    (fun p s => runsWithin_resumeAt p (clearStatusPost_evolves mask s)) s
  split
  · exact rtcAgent.retRtc _ _ (rtcAgent.refl s)
  split
  · exact rtcAgent.retRtc _ _ (rtcAgent.refl s)
  split
  · exact rtcAgent.retRtc _ _ (rtcAgent.refl s)
  · exact rtcAgent.swStall (rtcAgent.refl s) (clearStatusPost_evolves mask s)

/-- An operation that returns at once after its gate, having changed only what `RtcEvolves` allows. -/
theorem gated_mainStep_evolves {op h : Byte} {fsExempt : Bool} {body : State → Run}
    (hb : ∀ s, RunsWithin RtcEvolves s (body s)) (s : State) :
    StepsWithin RtcEvolves s (mainStep (gate op h fsExempt body) noResume s) :=
  rtcAgent.mainStep (fun s => rtcAgent.gate (hb s)) (fun p _ => runsWithin_noResume p) s

/-- A gated operation with one safe-write stall before its posts. -/
theorem stalled_mainStep_evolves {op h : Byte} {fsExempt : Bool} {gs : List Group} {body : State → Run}
    (hb : ∀ s, RunsWithin RtcEvolves s (body s)) (s : State) :
    StepsWithin RtcEvolves s (mainStep (gate op h fsExempt (swStall gs .stall body)) (resumeAt .stall body) s) :=
  rtcAgent.mainStep (fun s => rtcAgent.gate (rtcAgent.swStall (rtcAgent.refl s) (hb s)))
    (fun p s => runsWithin_resumeAt p (hb s)) s

/-- Every instruction of the RTC group stays within `RtcEvolves`. -/
theorem exec_rtcEvolves {i : Instr} (hi : rtcGroup i = true) (s : State) : StepsWithin RtcEvolves s (exec i s) := by
  cases i with
  | rtcInit id => exact execRtcInit_evolves id s
  | rtcUnInit h => exact gated_mainStep_evolves (fun _ => rtcAgent.retRtc _ _ (.of_eq (by rfl))) s
  | rtcClearFailSafe =>
    exact rtcAgent.mainStep (fun s => rtcAgent.awaitThen (rtcAgent.refl s) (clearFailSafePost_evolves s))
      (fun p s => runsWithin_resumeAt p (clearFailSafePost_evolves s)) s
  | rtcEnableDevice h b => exact controlEnable_evolves _ h _ b s
  | rtcEnableAlarm h b => exact controlEnable_evolves _ h _ b s
  | rtcEnableTrim h b => exact controlEnable_evolves _ h _ b s
  | rtcEnableLcdUpdate h b => exact controlEnable_evolves _ h _ b s
  | rtcEnableInterrupts h mask b => exact execRtcEnableInterrupts_evolves h mask b s
  | rtcEnableSafeWrites h b => exact gated_mainStep_evolves (fun _ => rtcAgent.retRtc _ _ (.of_eq (by rfl))) s
  | rtcGetCount h => exact gated_mainStep_evolves (pairedRead_evolves _ _ _) s
  | rtcSetCount h v => exact execRtcSetCount_evolves h v s
  | rtcGetAlarm h => exact gated_mainStep_evolves (pairedRead_evolves _ _ _) s
  | rtcSetAlarm h v => exact stalled_mainStep_evolves (setAlarmPost_evolves v) s
  | rtcGetTrim h => exact gatedGetter_evolves _ h _ s
  | rtcSetTrim h v => exact stalled_mainStep_evolves (setTrimPost_evolves v) s
  | rtcGetInterruptStatus h => exact gatedGetter_evolves _ h _ s
  | rtcClearInterruptStatus h mask => exact execRtcClearInterruptStatus_evolves h mask s
  | rtcGetWritePendStatus h => exact gatedGetter_evolves _ h _ s
  | rtcGetWriteSyncStatus h => exact gatedGetter_evolves _ h _ s
  | rtcGetWriteErrorSource h => exact gatedGetter_evolves _ h _ s
  | rtcSynchronizeAllWrites h =>
    exact rtcAgent.mainStep
      (fun s => rtcAgent.gate (rtcAgent.awaitThen (rtcAgent.refl s) (rtcAgent.retRtc _ _ (rtcAgent.refl s))))
      (fun p s => runsWithin_resumeAt p (rtcAgent.retRtc _ _ (rtcAgent.refl s))) s
  | rtcRegisterCallback h cb watch => exact gated_mainStep_evolves (fun _ => rtcAgent.retRtc _ _ (.of_eq (by rfl))) s
  | rtcAccept g => exact execRtcAccept_evolves g s
  | rtcCommit g => exact execRtcCommit_evolves g s
  | rtcSecond => exact execRtcSecond_evolves s
  | rtcFailsafeLatch => exact execRtcFailsafeLatch_evolves s
  | rtcIsr => exact execRtcIsr_evolves s
  | _ => simp [rtcGroup, opcodeOf] at hi

end Sys2Proof.Machine

/-! The I2C group: its operations, bus events, handlers and DMA stay within `I2cEvolves` (10_state.md R89). -/

namespace Sys2Proof.Machine

open Sys2Proof.Cert

/-! ### FIFOs and memory -/

theorem pushMTx_evolves {b : Byte} {s t : State} (h : pushMTx b s = .ok t) : I2cEvolves s t := by
  obtain ⟨hroom, rfl⟩ := pushMTx_ok h
  exact ⟨rfl, .of_eq rfl, fun ⟨_, hmr, hst, hsr⟩ => ⟨by simpa using hroom, hmr, hst, hsr⟩, id⟩

theorem pushMRx_evolves {b : Byte} {s t : State} (h : pushMRx b s = .ok t) : I2cEvolves s t := by
  obtain ⟨hroom, rfl⟩ := pushMRx_ok h
  exact ⟨rfl, .of_eq rfl, fun ⟨hmt, _, hst, hsr⟩ => ⟨hmt, by simpa using hroom, hst, hsr⟩, id⟩

theorem pushSTx_evolves {b : Byte} {s t : State} (h : pushSTx b s = .ok t) : I2cEvolves s t := by
  obtain ⟨hroom, rfl⟩ := pushSTx_ok h
  exact ⟨rfl, .of_eq rfl, fun ⟨hmt, hmr, _, hsr⟩ => ⟨hmt, hmr, by simpa using hroom, hsr⟩, id⟩

theorem pushSRx_evolves {b : Byte} {s t : State} (h : pushSRx b s = .ok t) : I2cEvolves s t := by
  obtain ⟨hroom, rfl⟩ := pushSRx_ok h
  exact ⟨rfl, .of_eq rfl, fun ⟨hmt, hmr, hst, _⟩ => ⟨hmt, hmr, hst, by simpa using hroom⟩, id⟩

/-- What a pop leaves is no longer than what it took from. -/
theorem length_tail_le {b : Byte} {f g : List Byte} {n : Nat} (hf : f = b :: g) (hn : f.length ≤ n) : g.length ≤ n := by
  subst hf
  exact Nat.le_of_succ_le hn

theorem popMTx_evolves {s : State} {p : Byte × State} (h : popMTx s = .ok p) : I2cEvolves s p.2 := by
  obtain ⟨f, hf, ht⟩ := popMTx_ok h
  rw [ht]
  exact ⟨rfl, .of_eq rfl, fun ⟨hmt, hmr, hst, hsr⟩ => ⟨length_tail_le hf hmt, hmr, hst, hsr⟩, id⟩

theorem popMRx_evolves {s : State} {p : Byte × State} (h : popMRx s = .ok p) : I2cEvolves s p.2 := by
  obtain ⟨f, hf, ht⟩ := popMRx_ok h
  rw [ht]
  exact ⟨rfl, .of_eq rfl, fun ⟨hmt, hmr, hst, hsr⟩ => ⟨hmt, length_tail_le hf hmr, hst, hsr⟩, id⟩

theorem popSTx_evolves {s : State} {p : Byte × State} (h : popSTx s = .ok p) : I2cEvolves s p.2 := by
  obtain ⟨f, hf, ht⟩ := popSTx_ok h
  rw [ht]
  exact ⟨rfl, .of_eq rfl, fun ⟨hmt, hmr, hst, hsr⟩ => ⟨hmt, hmr, length_tail_le hf hst, hsr⟩, id⟩

theorem popSRx_evolves {s : State} {p : Byte × State} (h : popSRx s = .ok p) : I2cEvolves s p.2 := by
  obtain ⟨f, hf, ht⟩ := popSRx_ok h
  rw [ht]
  exact ⟨rfl, .of_eq rfl, fun ⟨hmt, hmr, hst, hsr⟩ => ⟨hmt, hmr, hst, length_tail_le hf hsr⟩, id⟩

theorem memWrite_evolves {a : Addr} {v : Byte} {s t : State} (h : memWrite a v s = .ok t) : I2cEvolves s t := by
  obtain ⟨_, rfl⟩ := memWrite_ok h
  exact .of_eq rfl

/-! ### Trace, completion and the end of a wait -/

theorem emit_evolves (es : List BusEvent) (s : State) : I2cEvolves s (emit es s) :=
  ⟨rfl, ⟨List.prefix_append _ _, List.prefix_rfl, .of_eq rfl rfl⟩, id, id⟩

theorem signalCompletion_evolves (r : I2CResult) (s : State) : I2cEvolves s (signalCompletion r s) := by
  rcases signalCompletion_cases r s with ⟨_, h⟩ | ⟨_, h⟩
  · rw [h]
    exact .of_eq rfl
  · rw [h]
    exact ⟨rfl, ⟨List.prefix_rfl, List.prefix_append _ _, .of_eq rfl rfl⟩, id, id⟩

theorem endWait_evolves (s : State) : I2cEvolves s (endWait s) := .of_eq rfl

theorem waitThen_evolves {p : Point} {rest : State → Run} {s u : State} (h : I2cEvolves s u)
    (hr : RunsWithin I2cEvolves (endWait u) (rest (endWait u))) : RunsWithin I2cEvolves s (waitThen p rest u) :=
  i2cAgent.awaitThen h (i2cAgent.runsWithin_trans (endWait_evolves u) hr)

/-! ### DMA (44_i2c_dma.md) -/

/-- The channels of a mode and their lines are no part of the RTC group (44_i2c_dma.md R463, R464). -/
theorem setChannels_evolves (b : Bool) : ∀ (cs : List Chan) (s : State), I2cEvolves s (setChannels b cs s)
  | [], _ => .of_eq rfl
  | c :: cs, s =>
    have hfirst : I2cEvolves s ((s.setChannel c Channel.reset).setLine (lineOfChan c) b) := by
      cases c with
      | m => exact .of_eq rfl
      | stx => exact .of_eq rfl
      | srx => exact .of_eq rfl
    hfirst.trans (setChannels_evolves b cs _)

theorem setChannels_i2cd (b : Bool) : ∀ (cs : List Chan) (s : State), (setChannels b cs s).i2cd = s.i2cd
  | [], _ => rfl
  | c :: cs, s => setChannels_i2cd b cs ((s.setChannel c Channel.reset).setLine (lineOfChan c) b)

theorem drawBool_evolves (s : State) : I2cEvolves s (drawBool s).2 := i2cAgent.drawnFrom (drawBool_state s)

theorem drawBool_i2cd (s : State) : (drawBool s).2.i2cd = s.i2cd := by
  obtain ⟨e, he, _, _⟩ := drawBool_state s
  rw [he]

theorem dmaTakeChannels_evolves (s : State) : I2cEvolves s (dmaTakeChannels s).2 := by
  unfold dmaTakeChannels
  dsimp only
  split
  · exact (drawBool_evolves s).trans ((setChannels_evolves true _ _).trans (.of_eq (by rfl)))
  · exact drawBool_evolves s

theorem dmaReleaseChannels_evolves (s : State) : I2cEvolves s (dmaReleaseChannels s).2 := by
  unfold dmaReleaseChannels
  dsimp only
  split
  · exact (drawBool_evolves s).trans ((setChannels_evolves false _ _).trans (.of_eq (by rfl)))
  · exact drawBool_evolves s

/-- Taking the channels leaves the blocking mode as it is (44_i2c_dma.md R463). -/
theorem dmaTakeChannels_blocking (s : State) : (dmaTakeChannels s).2.i2cd.blocking = s.i2cd.blocking := by
  unfold dmaTakeChannels
  dsimp only
  split
  · simp only [setChannels_i2cd, drawBool_i2cd]
  · rw [drawBool_i2cd]

theorem dmaSyncRem_evolves (c : Chan) (s : State) : I2cEvolves s (dmaSyncRem c s) := by
  unfold dmaSyncRem
  split
  · exact .of_eq rfl
  · exact .of_eq rfl

theorem scheduleNext_evolves (s : State) : I2cEvolves s (scheduleNext s) := by
  unfold scheduleNext
  dsimp only
  split
  · exact .of_eq rfl
  · exact .of_eq rfl

theorem dmaStart_evolves (c : Chan) (buf : Addr) (size : Nat) (s : State) : I2cEvolves s (dmaStart c buf size s) := by
  unfold dmaStart
  extract_lets _ s1 _ s2 s3
  have hprepare : I2cEvolves s s2 := .of_eq rfl
  have hschedule : I2cEvolves s2 s3 := (scheduleNext_evolves s2).trans (scheduleNext_evolves _)
  have henable : I2cEvolves s3 (s3.setChannel c { s3.dma.get c with enabled := true }) := .of_eq rfl
  exact hprepare.trans (hschedule.trans (henable.trans (dmaSyncRem_evolves c _)))

theorem dmaStop_evolves (c : Chan) (s : State) : I2cEvolves s (dmaStop c s) := .of_eq rfl

theorem noteFilled_evolves (c : Chan) (s : State) : I2cEvolves s (noteFilled c s) := by
  unfold noteFilled
  split
  · exact .of_eq rfl
  · exact .of_eq rfl

theorem dmaDisableRequest_evolves (c : Chan) (s : State) : I2cEvolves s (dmaDisableRequest c s) := by
  cases c with
  | m => exact .of_eq rfl
  | stx => exact .of_eq rfl
  | srx => exact .of_eq rfl

theorem dmaComplete_evolves (c : Chan) (s : State) : I2cEvolves s (dmaComplete c s) := by
  have hsync : I2cEvolves s (dmaSyncRem c (dmaDisableRequest c s)) :=
    (dmaDisableRequest_evolves c s).trans (dmaSyncRem_evolves c _)
  unfold dmaComplete
  dsimp only
  split
  · exact hsync
  · exact hsync.trans ((noteFilled_evolves c _).trans (signalCompletion_evolves _ _))

theorem moveElement_evolves (c : Chan) (d : Desc) (s : State) : RunsWithin I2cEvolves s (moveElement c d s) := by
  unfold moveElement
  split
  · refine runsWithin_bind fun b _ => ?_
    cases c with
    | m => exact fun _ h => pushMTx_evolves h
    | stx => exact fun _ h => pushSTx_evolves h
    | srx => exact runsWithin_error _
  · cases c with
    | m => exact runsWithin_bind fun p hp t ht => (popMRx_evolves hp).trans (memWrite_evolves ht)
    | stx => exact runsWithin_error _
    | srx => exact runsWithin_bind fun p hp t ht => (popSRx_evolves hp).trans (memWrite_evolves ht)

theorem execDmaXfer_evolves (c : Chan) (s : State) : StepsWithin I2cEvolves s (execDmaXfer c s) :=
  i2cAgent.eventStep
    (fun s => runsWithin_bind fun u hu => runsWithin_ok ((moveElement_evolves c _ s u hu).trans (.of_eq (by rfl)))) s

theorem dmaService_evolves (c : Chan) (s : State) : RunsWithin I2cEvolves s (dmaService c s) := by
  have hdone : I2cEvolves s (s.setChannel c { s.dma.get c with done := false }) := .of_eq rfl
  unfold dmaService
  refine runsWithin_ite (fun _ => runsWithin_ok hdone) fun _ => ?_
  refine runsWithin_ite (fun _ => runsWithin_ok (hdone.trans (dmaComplete_evolves c _))) fun _ => ?_
  refine runsWithin_ite (fun _ => ?_) fun _ => runsWithin_ok hdone
  refine runsWithin_ite (fun _ => runsWithin_error _) fun _ => runsWithin_ok ?_
  exact hdone.trans ((scheduleNext_evolves _).trans (dmaSyncRem_evolves c _))

theorem execDmaIsr_evolves (c : Chan) (s : State) : StepsWithin I2cEvolves s (execDmaIsr c s) :=
  i2cAgent.handlerStep (dmaService_evolves c) s

/-! ### Lifecycle and configuration (42_i2c_master.md R320 to R328) -/

/-- A freshly initialized driver is blocking and in PIO (10_state.md R67). -/
theorem initializedDriver_evolves (mode : Mode) (s : State) :
    I2cEvolves s { s with i2cd := initializedDriver mode } :=
  ⟨rfl, .of_eq rfl, id, fun _ => by simp [EngineMatchesMode, initializedDriver, I2cDriver.reset]⟩

theorem masterInitSetup_evolves (s : State) : I2cEvolves s (masterInitSetup s) := .of_eq rfl

theorem slaveInitSetup_evolves (s : State) : I2cEvolves s (slaveInitSetup s) := .of_eq rfl

theorem i2cInit_evolves (op id : Byte) (mode : Mode) {setup : State → State} (hsetup : ∀ s, I2cEvolves s (setup s))
    (s : State) : RunsWithin I2cEvolves s (i2cInit op id mode setup s) := by
  have hdraw : I2cEvolves s (if s.cfg.rtos then drawBool s else (true, s)).2 := by
    split
    · exact drawBool_evolves s
    · exact .of_eq rfl
  unfold i2cInit
  split
  · exact i2cAgent.retI2c _ _ (i2cAgent.refl s)
  split
  · exact i2cAgent.retI2c _ _ (i2cAgent.refl s)
  refine runsWithin_ite (fun _ => runsWithin_ok ?_) fun _ => i2cAgent.retI2c _ _ hdraw
  exact i2cAgent.ret _ _ _ (hdraw.trans ((initializedDriver_evolves mode _).trans (hsetup _)))

theorem unInitFinish_evolves (s : State) : RunsWithin I2cEvolves s (unInitFinish s) :=
  i2cAgent.retI2c _ _ ⟨rfl, .of_eq rfl, id, fun _ => by simp [EngineMatchesMode, I2cDriver.reset]⟩

theorem unInitBody_evolves (s : State) : RunsWithin I2cEvolves s (unInitBody s) := by
  unfold unInitBody
  split
  · exact i2cAgent.retI2c _ _ (i2cAgent.refl s)
  split
  · dsimp only
    split
    · exact i2cAgent.runsWithin_trans (dmaReleaseChannels_evolves s) (unInitFinish_evolves _)
    · exact i2cAgent.retI2c _ _ (dmaReleaseChannels_evolves s)
  · exact unInitFinish_evolves s

/-- Blocking is refused while DMA is on (10_state.md R67, 42_i2c_master.md R323). -/
theorem setBlockingBody_evolves (b : Bool) (s : State) : RunsWithin I2cEvolves s (setBlockingBody b s) := by
  unfold setBlockingBody
  split
  · exact i2cAgent.retI2c _ _ (i2cAgent.refl s)
  · rename_i hfree
    exact i2cAgent.retI2c _ _ ⟨rfl, .of_eq rfl, id, fun ⟨heng, _⟩ => ⟨heng, by simpa using hfree⟩⟩

/-- DMA is refused while blocking, and the engine changes with it (10_state.md R67, 42_i2c_master.md R324). -/
theorem setDmaBody_evolves (b : Bool) (s : State) : RunsWithin I2cEvolves s (setDmaBody b s) := by
  have hchan : I2cEvolves s (if b then dmaTakeChannels s else dmaReleaseChannels s).2 := by
    split
    · exact dmaTakeChannels_evolves s
    · exact dmaReleaseChannels_evolves s
  unfold setDmaBody
  split
  · exact i2cAgent.retI2c _ _ (i2cAgent.refl s)
  rename_i hfree
  split
  · exact i2cAgent.retI2c _ _ (i2cAgent.refl s)
  refine runsWithin_ite (fun _ => i2cAgent.retI2c _ _ (hchan.trans ⟨rfl, .of_eq rfl, id, fun _ => ?_⟩)) fun _ =>
    i2cAgent.retI2c _ _ hchan
  cases b with
  | false => simp [EngineMatchesMode]
  | true => simpa [EngineMatchesMode, dmaTakeChannels_blocking] using hfree

theorem setSlaveAddressBody_evolves (v : U16) (s : State) : RunsWithin I2cEvolves s (setSlaveAddressBody v s) := by
  unfold setSlaveAddressBody
  split
  · exact i2cAgent.retI2c _ _ (i2cAgent.refl s)
  · exact i2cAgent.retI2c _ _ (.of_eq (by rfl))

/-! ### The shared procedures of the master (42_i2c_master.md R329 to R340) -/

/-- A launch shows a start or a repeated start on the bus (42_i2c_master.md R340). -/
theorem writeAdr1_evolves (b : Byte) (s : State) : I2cEvolves s (writeAdr1 b s) := by
  unfold writeAdr1
  dsimp only
  split
  · exact I2cEvolves.trans (.of_eq (by rfl)) (emit_evolves _ _)
  split
  · exact .of_eq rfl
  · exact .of_eq rfl

theorem launch_evolves (sid : U16) (d : Dir) (s : State) : I2cEvolves s (launch sid d s) := by
  unfold launch
  split
  · exact I2cEvolves.trans (.of_eq (by rfl)) (writeAdr1_evolves _ _)
  · exact writeAdr1_evolves _ s

theorem pumpTx_evolves (s : State) : RunsWithin I2cEvolves s (pumpTx s) := by
  unfold pumpTx
  split
  · exact runsWithin_bind fun t ht => runsWithin_ok ((pushMTx_evolves ht).trans (.of_eq (by rfl)))
  split
  · exact runsWithin_bind fun b _ => runsWithin_bind fun t ht =>
      runsWithin_ok ((pushMTx_evolves ht).trans (.of_eq (by rfl)))
  · exact runsWithin_ok (I2cEvolves.trans (.of_eq (by rfl)) (signalCompletion_evolves _ _))

theorem pumpRxByte_evolves (s : State) : RunsWithin I2cEvolves s (pumpRxByte s) := by
  unfold pumpRxByte
  split
  · exact runsWithin_bind fun p hp => runsWithin_bind fun t ht =>
      runsWithin_ok ((popMRx_evolves hp).trans ((memWrite_evolves ht).trans (.of_eq (by rfl))))
  · exact runsWithin_ok (.of_eq (by rfl))

theorem pumpRxEnd_evolves (s : State) : I2cEvolves s (pumpRxEnd s) := by
  unfold pumpRxEnd
  split
  · exact I2cEvolves.trans (.of_eq (by rfl)) (signalCompletion_evolves _ _)
  · exact .of_eq rfl

theorem pumpRx_evolves (s : State) : RunsWithin I2cEvolves s (pumpRx s) :=
  runsWithin_map fun t ht => (pumpRxByte_evolves s t ht).trans (pumpRxEnd_evolves t)

theorem programRxCount_evolves (n : Nat) (s : State) : I2cEvolves s (programRxCount n s) := by
  unfold programRxCount
  split
  · exact .of_eq rfl
  · exact .of_eq rfl

/-! ### The master transfers (42_i2c_master.md R330, R331) -/

/-- The transmit FIFO is emptied (42_i2c_master.md R330). -/
theorem transmitFields_evolves (sid : U16) (daddr : U32) (daw : Byte) (buf : Addr) (size : U16) (rs : Bool)
    (s : State) : I2cEvolves s (transmitFields sid daddr daw buf size rs s) :=
  ⟨rfl, .of_eq rfl, fun ⟨_, hmr, hst, hsr⟩ => ⟨Nat.zero_le _, hmr, hst, hsr⟩, id⟩

theorem transmitEngine_evolves (buf : Addr) (size : U16) (rs : Bool) (s : State) :
    RunsWithin I2cEvolves s (transmitEngine buf size rs s) := by
  unfold transmitEngine
  split
  · exact i2cAgent.runsWithin_trans (.of_eq (by rfl)) (pumpTx_evolves _)
  · have hstart : I2cEvolves s (dmaStart .m buf size.toNat { s with i2cd := { s.i2cd with sharedIsRx := false } }) :=
      I2cEvolves.trans (.of_eq (by rfl)) (dmaStart_evolves _ _ _ _)
    exact runsWithin_ok (hstart.trans (.of_eq (by rfl)))

theorem transferReturn_evolves (op : Byte) (s : State) : RunsWithin I2cEvolves s (transferReturn op s) :=
  i2cAgent.retI2c _ _ (.of_eq (by rfl))

theorem transferEnd_evolves (op : Byte) {s u : State} (h : I2cEvolves s u) :
    RunsWithin I2cEvolves s (transferEnd op u) := by
  unfold transferEnd
  split
  · exact waitThen_evolves h (transferReturn_evolves op _)
  · exact i2cAgent.retI2c _ _ h

theorem transmitIdle_evolves (sid : U16) (daddr : U32) (daw : Byte) (buf : Addr) (size : U16) (rs : Bool) (s : State) :
    RunsWithin I2cEvolves s (transmitIdle sid daddr daw buf size rs s) :=
  runsWithin_bind fun t ht => transferEnd_evolves _
    ((transmitFields_evolves ..).trans ((transmitEngine_evolves _ _ _ _ t ht).trans (launch_evolves _ _ t)))

theorem execI2cMasterTransmit_evolves (h : Byte) (sid : U16) (daddr : U32) (daw : Byte) (buf : Addr) (size : U16)
    (rs : Bool) (s : State) : StepsWithin I2cEvolves s (execI2cMasterTransmit h sid daddr daw buf size rs s) := by
  refine i2cAgent.mainStep
    (fun s => i2cAgent.i2cGate (i2cAgent.checkMaster
      (i2cAgent.awaitThen (i2cAgent.refl s) (transmitIdle_evolves _ _ _ _ _ _ s))))
    (fun p s => ?_) s
  split
  · exact transmitIdle_evolves _ _ _ _ _ _ s
  split
  · exact i2cAgent.runsWithin_trans (endWait_evolves s) (transferReturn_evolves _ _)
  · exact runsWithin_offPoint

/-- The transmit FIFO is emptied (42_i2c_master.md R331). -/
theorem subFields_evolves (sid : U16) (daddr : U32) (daw : Byte) (rs : Bool) (s : State) :
    I2cEvolves s (subFields sid daddr daw rs s) :=
  ⟨rfl, .of_eq rfl, fun ⟨_, hmr, hst, hsr⟩ => ⟨Nat.zero_le _, hmr, hst, hsr⟩, id⟩

/-- The receive FIFO is emptied (42_i2c_master.md R331). -/
theorem receiveFields_evolves (sid : U16) (buf : Addr) (size : U16) (rsRead : Bool) (s : State) :
    I2cEvolves s (receiveFields sid buf size rsRead s) :=
  I2cEvolves.trans (.of_eq (by rfl)) ((programRxCount_evolves size.toNat _).trans
    ⟨rfl, .of_eq rfl, fun ⟨hmt, _, hst, hsr⟩ => ⟨hmt, Nat.zero_le _, hst, hsr⟩, id⟩)

theorem receiveEngine_evolves (buf : Addr) (size : U16) (rsRead : Bool) (s : State) :
    I2cEvolves s (receiveEngine buf size rsRead s) := by
  unfold receiveEngine
  split
  · exact .of_eq rfl
  · have hstart : I2cEvolves s (dmaStart .m buf size.toNat { s with i2cd := { s.i2cd with sharedIsRx := true } }) :=
      I2cEvolves.trans (.of_eq (by rfl)) (dmaStart_evolves _ _ _ _)
    exact hstart.trans (.of_eq (by rfl))

theorem receiveIdle_evolves (sid : U16) (buf : Addr) (size : U16) (rsRead : Bool) (s : State) :
    RunsWithin I2cEvolves s (receiveIdle sid buf size rsRead s) :=
  transferEnd_evolves _
    ((receiveFields_evolves ..).trans ((receiveEngine_evolves ..).trans (launch_evolves ..)))

theorem receivePhase_evolves (sid : U16) (buf : Addr) (size : U16) (rsRead : Bool) (s : State) :
    RunsWithin I2cEvolves s (receivePhase sid buf size rsRead s) :=
  i2cAgent.awaitThen (i2cAgent.refl s) (receiveIdle_evolves _ _ _ _ s)

theorem subEnd_evolves (sid : U16) (buf : Addr) (size : U16) (s : State) :
    RunsWithin I2cEvolves s (subEnd sid buf size s) := by
  unfold subEnd
  split
  · exact receivePhase_evolves _ _ _ _ s
  · exact i2cAgent.retI2c _ _ (i2cAgent.refl s)

theorem subTransaction_evolves (sid : U16) (daddr : U32) (daw : Byte) (buf : Addr) (size : U16) (rs : Bool)
    (s : State) : RunsWithin I2cEvolves s (subTransaction sid daddr daw buf size rs s) :=
  runsWithin_bind fun t ht => waitThen_evolves
    ((subFields_evolves ..).trans ((pumpTx_evolves _ t ht).trans (launch_evolves ..))) (subEnd_evolves _ _ _ _)

theorem receiveStart_evolves (sid : U16) (daddr : U32) (daw : Byte) (buf : Addr) (size : U16) (rs : Bool) (s : State) :
    RunsWithin I2cEvolves s (receiveStart sid daddr daw buf size rs s) := by
  unfold receiveStart
  split
  · exact i2cAgent.awaitThen (i2cAgent.refl s) (subTransaction_evolves _ _ _ _ _ _ s)
  · exact receivePhase_evolves _ _ _ _ s

theorem execI2cMasterReceive_evolves (h : Byte) (sid : U16) (daddr : U32) (daw : Byte) (buf : Addr) (size : U16)
    (rs : Bool) (s : State) : StepsWithin I2cEvolves s (execI2cMasterReceive h sid daddr daw buf size rs s) := by
  refine i2cAgent.mainStep
    (fun s => i2cAgent.i2cGate (i2cAgent.checkMaster (receiveStart_evolves _ _ _ _ _ _ s))) (fun p s => ?_) s
  split
  · exact subTransaction_evolves _ _ _ _ _ _ s
  split
  · exact i2cAgent.runsWithin_trans (endWait_evolves s) (subEnd_evolves _ _ _ _)
  split
  · exact receiveIdle_evolves _ _ _ _ s
  split
  · exact i2cAgent.runsWithin_trans (endWait_evolves s) (transferReturn_evolves _ _)
  · exact runsWithin_offPoint

/-! ### The slave transfers (43_i2c_slave.md R410, R411) -/

theorem slaveTxByte_evolves (s : State) : RunsWithin I2cEvolves s (slaveTxByte s) :=
  runsWithin_bind fun _ _ => runsWithin_bind fun _ ht => runsWithin_ok ((pushSTx_evolves ht).trans (.of_eq (by rfl)))

theorem slaveBurst_evolves : ∀ (n : Nat) (s : State), RunsWithin I2cEvolves s (slaveBurst n s)
  | 0, _ => runsWithin_ok (.of_eq (by rfl))
  | n + 1, s => by
    unfold slaveBurst
    split
    · exact runsWithin_bind fun t ht =>
        i2cAgent.runsWithin_trans (slaveTxByte_evolves s t ht) (slaveBurst_evolves n t)
    · exact runsWithin_ok (.of_eq (by rfl))

/-- The transmit FIFO is emptied (43_i2c_slave.md R410). -/
theorem slaveTransmitFields_evolves (buf : Addr) (size : U16) (s : State) :
    I2cEvolves s (slaveTransmitFields buf size s) :=
  ⟨rfl, .of_eq rfl, fun ⟨hmt, hmr, _, hsr⟩ => ⟨hmt, hmr, Nat.zero_le _, hsr⟩, id⟩

theorem slaveTransmitEngine_evolves (buf : Addr) (size : U16) (s : State) :
    RunsWithin I2cEvolves s (slaveTransmitEngine buf size s) := by
  unfold slaveTransmitEngine
  split
  · exact runsWithin_bind fun t ht => runsWithin_ok ((slaveBurst_evolves _ s t ht).trans (.of_eq (by rfl)))
  · have hstart : I2cEvolves s (dmaStart .stx buf size.toNat { s with i2cd := { s.i2cd with curCh := .stx } }) :=
      I2cEvolves.trans (.of_eq (by rfl)) (dmaStart_evolves _ _ _ _)
    have hrequest : ∀ t : State, I2cEvolves t { t with sl := { t.sl with dmaTx := true } } := fun _ => .of_eq rfl
    exact runsWithin_ok (hstart.trans (hrequest _))

/-- The receive FIFO is kept (43_i2c_slave.md R411). -/
theorem slaveReceiveFields_evolves (buf : Addr) (size : U16) (s : State) :
    I2cEvolves s (slaveReceiveFields buf size s) := .of_eq rfl

theorem slaveReceiveEngine_evolves (buf : Addr) (size : U16) (s : State) :
    I2cEvolves s (slaveReceiveEngine buf size s) := by
  unfold slaveReceiveEngine
  split
  · exact .of_eq rfl
  · have hstart : I2cEvolves s (dmaStart .srx buf size.toNat { s with i2cd := { s.i2cd with curCh := .srx } }) :=
      I2cEvolves.trans (.of_eq (by rfl)) (dmaStart_evolves _ _ _ _)
    have hrequest : ∀ t : State, I2cEvolves t { t with sl := { t.sl with dmaRx := true } } := fun _ => .of_eq rfl
    exact hstart.trans (hrequest _)

theorem slaveReturn_evolves (op : Byte) (s : State) : RunsWithin I2cEvolves s (slaveReturn op s) :=
  runsWithin_ok (i2cAgent.ret _ _ _ (.of_eq (by rfl)))

theorem slaveCallEnd_evolves (op : Byte) {s u : State} (h : I2cEvolves s u) :
    RunsWithin I2cEvolves s (slaveCallEnd op u) := by
  unfold slaveCallEnd
  split
  · exact waitThen_evolves h (slaveReturn_evolves op _)
  · exact i2cAgent.retI2c _ _ h

theorem slaveRelease_evolves (s : State) : I2cEvolves s (slaveRelease s) := .of_eq rfl

theorem slaveTransmitIdle_evolves (buf : Addr) (size : U16) (s : State) :
    RunsWithin I2cEvolves s (slaveTransmitIdle buf size s) :=
  runsWithin_bind fun t ht => slaveCallEnd_evolves _
    ((slaveTransmitFields_evolves buf size s).trans
      ((slaveTransmitEngine_evolves buf size _ t ht).trans (slaveRelease_evolves t)))

theorem slaveReceiveIdle_evolves (buf : Addr) (size : U16) (s : State) :
    RunsWithin I2cEvolves s (slaveReceiveIdle buf size s) :=
  slaveCallEnd_evolves _
    ((slaveReceiveFields_evolves buf size s).trans
      ((slaveReceiveEngine_evolves buf size _).trans (slaveRelease_evolves _)))

theorem slaveCall_evolves (op h : Byte) (size : U16) {idle : State → Run}
    (hidle : ∀ s, RunsWithin I2cEvolves s (idle s)) (s : State) :
    StepsWithin I2cEvolves s (slaveCall op h size idle s) := by
  refine i2cAgent.mainStep (fun s => i2cAgent.i2cGate ?_) (fun p s => ?_) s
  · split
    · exact i2cAgent.retI2c _ _ (i2cAgent.refl s)
    · exact i2cAgent.slaveCheck (i2cAgent.awaitThen (i2cAgent.refl s) (hidle s))
  · split
    · exact hidle s
    split
    · exact i2cAgent.runsWithin_trans (endWait_evolves s) (slaveReturn_evolves op _)
    · exact runsWithin_offPoint

/-! ### The bus events (42_i2c_master.md R360 to R368, 43_i2c_slave.md R420 to R427) -/

theorem mEnd_evolves (k : EndKind) (s : State) : I2cEvolves s (mEnd k s) :=
  I2cEvolves.trans (.of_eq (by rfl)) (emit_evolves _ _)

theorem normalEnd_evolves (s : State) : I2cEvolves s (normalEnd s) := (mEnd_evolves .normal s).trans (.of_eq (by rfl))

theorem execMAddrAck_evolves (s : State) : StepsWithin I2cEvolves s (execMAddrAck s) :=
  i2cAgent.eventStep (fun _ => runsWithin_ok (I2cEvolves.trans (.of_eq (by rfl)) (emit_evolves _ _))) s

theorem execMAddrNack_evolves (s : State) : StepsWithin I2cEvolves s (execMAddrNack s) :=
  i2cAgent.eventStep
    (fun _ => runsWithin_ok (I2cEvolves.trans (.of_eq (by rfl)) ((emit_evolves _ _).trans (mEnd_evolves _ _)))) s

theorem execMTxEnd_evolves (s : State) : StepsWithin I2cEvolves s (execMTxEnd s) :=
  i2cAgent.eventStep (fun s => runsWithin_ok (normalEnd_evolves s)) s

theorem execMRxEnd_evolves (s : State) : StepsWithin I2cEvolves s (execMRxEnd s) :=
  i2cAgent.eventStep (fun s => runsWithin_ok (normalEnd_evolves s)) s

theorem execMAlost_evolves (s : State) : StepsWithin I2cEvolves s (execMAlost s) :=
  i2cAgent.eventStep
    (fun _ => runsWithin_ok (I2cEvolves.trans (.of_eq (by rfl)) ((emit_evolves _ _).trans (mEnd_evolves _ _)))) s

theorem execSAddrMatch_evolves (d : Dir) (s : State) : StepsWithin I2cEvolves s (execSAddrMatch d s) :=
  i2cAgent.eventStep (fun _ => runsWithin_ok (I2cEvolves.trans (.of_eq (by rfl)) (emit_evolves _ _))) s

theorem execSTxUnderflow_evolves (s : State) : StepsWithin I2cEvolves s (execSTxUnderflow s) :=
  i2cAgent.eventStep
    (fun s => runsWithin_ok ((i2cAgent.drawnFrom (drawBits_state 8 s)).trans (emit_evolves _ _))) s

theorem execSRepstart_evolves (d : Dir) (s : State) : StepsWithin I2cEvolves s (execSRepstart d s) :=
  i2cAgent.eventStep (fun _ => runsWithin_ok (I2cEvolves.trans (.of_eq (by rfl)) (emit_evolves _ _))) s

theorem execSStop_evolves (s : State) : StepsWithin I2cEvolves s (execSStop s) :=
  i2cAgent.eventStep (fun _ => runsWithin_ok (I2cEvolves.trans (.of_eq (by rfl)) (emit_evolves _ _))) s

theorem execSGcall_evolves (b : Byte) (s : State) : StepsWithin I2cEvolves s (execSGcall b s) :=
  i2cAgent.eventStep (fun _ => runsWithin_ok (I2cEvolves.trans (.of_eq (by rfl)) (emit_evolves _ _))) s

theorem execMTxByteAck_evolves (s : State) : StepsWithin I2cEvolves s (execMTxByteAck s) :=
  i2cAgent.eventStep
    (fun _ => runsWithin_bind fun _ hp => runsWithin_ok ((popMTx_evolves hp).trans (emit_evolves _ _))) s

theorem execMTxByteNack_evolves (s : State) : StepsWithin I2cEvolves s (execMTxByteNack s) :=
  i2cAgent.eventStep
    (fun _ => runsWithin_bind fun _ hp => runsWithin_ok
      ((popMTx_evolves hp).trans (I2cEvolves.trans (.of_eq (by rfl)) ((emit_evolves _ _).trans (mEnd_evolves _ _))))) s

theorem execMRxByte_evolves (b : Byte) (s : State) : StepsWithin I2cEvolves s (execMRxByte b s) :=
  i2cAgent.eventStep
    (fun _ => runsWithin_bind fun _ hu => runsWithin_ok
      ((pushMRx_evolves hu).trans (I2cEvolves.trans (.of_eq (by rfl)) (emit_evolves _ _)))) s

theorem execSRxByte_evolves (b : Byte) (s : State) : StepsWithin I2cEvolves s (execSRxByte b s) :=
  i2cAgent.eventStep
    (fun _ => runsWithin_map fun _ ht => (pushSRx_evolves ht).trans (emit_evolves _ _)) s

theorem execSTxByte_evolves (s : State) : StepsWithin I2cEvolves s (execSTxByte s) :=
  i2cAgent.eventStep
    (fun _ => runsWithin_bind fun _ hp => runsWithin_ok ((popSTx_evolves hp).trans (emit_evolves _ _))) s

/-! ### The master handler (42_i2c_master.md R370 to R373) -/

theorem repeatStartCheck_evolves (s : State) : I2cEvolves s (repeatStartCheck s) := by
  unfold repeatStartCheck
  split
  · dsimp only
    split
    · exact I2cEvolves.trans (.of_eq (by rfl)) (writeAdr1_evolves _ _)
    · exact .of_eq rfl
  · exact .of_eq rfl

theorem fifoPump_evolves (s : State) : RunsWithin I2cEvolves s (fifoPump s) := by
  unfold fifoPump
  split
  · split
    · exact pumpRx_evolves s
    · exact pumpTx_evolves s
  · exact runsWithin_ok (.of_eq (by rfl))

theorem fifoService_evolves (s : State) : RunsWithin I2cEvolves s (fifoService s) :=
  i2cAgent.runsWithin_trans (repeatStartCheck_evolves s) (fifoPump_evolves _)

theorem tcompService_evolves (s : State) : I2cEvolves s (tcompService s) := by
  unfold tcompService
  split
  · exact .of_eq rfl
  · exact I2cEvolves.trans (.of_eq (by rfl)) (signalCompletion_evolves _ _)

theorem masterError_evolves (s : State) : I2cEvolves s (masterError s) := by
  unfold masterError
  extract_lets t
  have hsignal : I2cEvolves s t := I2cEvolves.trans (.of_eq (by rfl)) (signalCompletion_evolves _ _)
  exact hsignal.trans (.of_eq (by rfl))

theorem masterService_evolves (s : State) : RunsWithin I2cEvolves s (masterService s) := by
  have htcomp : ∀ t, I2cEvolves s t → RunsWithin I2cEvolves s (.ok (if t.m.tcomp then tcompService t else t)) := by
    intro t ht
    split
    · exact runsWithin_ok (ht.trans (tcompService_evolves t))
    · exact runsWithin_ok ht
  unfold masterService
  split
  · exact runsWithin_ok (masterError_evolves s)
  split
  · exact runsWithin_bind fun t ht => htcomp t (fifoService_evolves s t ht)
  · exact htcomp s (.of_eq (by rfl))

/-! ### The slave handler (43_i2c_slave.md R430 to R436) -/

theorem storeSlaveByte_evolves (x : Byte) (s : State) : RunsWithin I2cEvolves s (storeSlaveByte x s) :=
  runsWithin_bind fun _ ht => runsWithin_ok ((memWrite_evolves ht).trans (.of_eq (by rfl)))

/-- A received byte is stored for the active call, or discarded (43_i2c_slave.md R431). -/
theorem onSlaveRx_evolves {p q : Pass} (h : onSlaveRx p = .ok q) : I2cEvolves p.st q.st := by
  unfold onSlaveRx at h
  obtain ⟨x, hx, h⟩ := except_bind_ok h
  split at h
  · obtain ⟨t, ht, h⟩ := except_bind_ok h
    have hstore : I2cEvolves p.st t := (popSRx_evolves hx).trans (storeSlaveByte_evolves _ _ t ht)
    cases h
    split
    · exact hstore
    · exact hstore
  · cases h
    exact popSRx_evolves hx

theorem onSlaveTx_evolves {p q : Pass} (h : onSlaveTx p = .ok q) : I2cEvolves p.st q.st := by
  unfold onSlaveTx at h
  split at h
  · obtain ⟨t, ht, h⟩ := except_bind_ok h
    cases h
    exact slaveTxByte_evolves _ t ht
  · cases h
    exact .of_eq rfl

theorem dmaNoteSlaveProgress_evolves (p : Pass) : I2cEvolves p.st (dmaNoteSlaveProgress p).st := by
  unfold dmaNoteSlaveProgress
  split
  · exact .of_eq rfl
  · exact (dmaSyncRem_evolves _ _).trans ((noteFilled_evolves _ _).trans (dmaStop_evolves _ _))

theorem noteIfDma_evolves (p : Pass) : I2cEvolves p.st (noteIfDma p).st := by
  unfold noteIfDma
  split
  · exact dmaNoteSlaveProgress_evolves p
  · exact .of_eq rfl

theorem stretchHold_evolves (s : State) : I2cEvolves s (stretchHold s) := by
  unfold stretchHold
  split
  · exact .of_eq rfl
  · exact .of_eq rfl

theorem onSlaveRepstart_evolves (p : Pass) : I2cEvolves p.st (onSlaveRepstart p).st := by
  unfold onSlaveRepstart
  extract_lets q
  have hnoted : I2cEvolves p.st q.st :=
    (stretchHold_evolves p.st).trans (noteIfDma_evolves { p with st := stretchHold p.st })
  exact hnoted.trans (.of_eq (by rfl))

/-- In DMA mode the progress of an active call is noted, and the requests of its channels are turned off
(43_i2c_slave.md R435). -/
theorem slaveExitProgress_evolves (p : Pass) :
    I2cEvolves p.st
      (if p.st.i2cd.engine == .dma && !p.st.i2cd.complete then
        { (dmaNoteSlaveProgress p).st with
          sl := { (dmaNoteSlaveProgress p).st.sl with dmaTx := false, dmaRx := false } }
      else p.st) := by
  split
  · exact (dmaNoteSlaveProgress_evolves p).trans (.of_eq (by rfl))
  · exact .of_eq rfl

theorem slaveExit_evolves (r : I2CResult) (p : Pass) : I2cEvolves p.st (slaveExit r p) :=
  I2cEvolves.trans (.of_eq (by rfl)) ((slaveExitProgress_evolves _).trans (signalCompletion_evolves r _))

theorem passRepstart_evolves (p : Pass) : I2cEvolves p.st (passRepstart p).st := by
  unfold passRepstart
  split
  · exact I2cEvolves.trans (.of_eq (by rfl)) (onSlaveRepstart_evolves _)
  · exact .of_eq rfl

theorem passStop_evolves (p : Pass) : I2cEvolves p.st (passStop p).st := by
  unfold passStop
  split
  · exact I2cEvolves.trans (.of_eq (by rfl))
      (noteIfDma_evolves { p with st := { p.st with sl := { p.st.sl with stop := false } } })
  · exact .of_eq rfl

theorem passGcall_evolves (p : Pass) : I2cEvolves p.st (passGcall p).st := by
  unfold passGcall
  split
  · exact .of_eq rfl
  · exact .of_eq rfl

theorem passExit_evolves (p : Pass) : I2cEvolves p.st (passExit p) := by
  unfold passExit
  split
  · exact slaveExit_evolves _ p
  · exact .of_eq rfl

/-- The latched bits are serviced after the FIFOs, in the order of R430. -/
theorem passLatches_evolves (p : Pass) :
    I2cEvolves p.st (passExit (passGcall (passStop (passRepstart p)))) :=
  (passRepstart_evolves p).trans ((passStop_evolves _).trans ((passGcall_evolves _).trans (passExit_evolves _)))

theorem slaveService_evolves (s : State) : RunsWithin I2cEvolves s (slaveService s) := by
  have hlatches : ∀ p, I2cEvolves s p.st →
      RunsWithin I2cEvolves s (.ok (passExit (passGcall (passStop (passRepstart p))))) := fun p hp =>
    runsWithin_ok (hp.trans (passLatches_evolves p))
  have htx : ∀ p, I2cEvolves s p.st → RunsWithin I2cEvolves s (do
      let q ← if p.st.sl.ie.txreq && txreqS p.st then onSlaveTx p else .ok p
      .ok (passExit (passGcall (passStop (passRepstart q))))) := fun p hp =>
    runsWithin_ite (fun _ => runsWithin_bind fun q hq => hlatches q (hp.trans (onSlaveTx_evolves hq)))
      fun _ => hlatches p hp
  exact runsWithin_ite (fun _ => runsWithin_bind fun p hp => htx p (onSlaveRx_evolves hp)) fun _ =>
    htx _ (i2cAgent.refl s)

/-! ### Every instruction of the group -/

/-- A gated operation of both modes or of the slave that returns at once. -/
theorem i2cGated_mainStep_evolves {op h : Byte} {modes : List Mode} {body : State → Run}
    (hb : ∀ s, RunsWithin I2cEvolves s (body s)) (s : State) :
    StepsWithin I2cEvolves s (mainStep (i2cGate op h modes body) noResume s) :=
  i2cAgent.mainStep (fun s => i2cAgent.i2cGate (hb s)) (fun p _ => runsWithin_noResume p) s

/-- Every instruction outside the RTC group stays within `I2cEvolves`. -/
theorem exec_i2cEvolves {i : Instr} (hi : rtcGroup i = false) (s : State) : StepsWithin I2cEvolves s (exec i s) := by
  cases i with
  | i2cMasterInit id =>
    exact i2cAgent.mainStep (i2cInit_evolves _ id _ masterInitSetup_evolves) (fun p _ => runsWithin_noResume p) s
  | i2cSlaveInit id =>
    exact i2cAgent.mainStep (i2cInit_evolves _ id _ slaveInitSetup_evolves) (fun p _ => runsWithin_noResume p) s
  | i2cUnInit h => exact i2cGated_mainStep_evolves unInitBody_evolves s
  | i2cSetBlockingMode h b =>
    exact i2cGated_mainStep_evolves (fun s => i2cAgent.ifComplete (setBlockingBody_evolves b s)) s
  | i2cSetDmaMode h b => exact i2cGated_mainStep_evolves (fun s => i2cAgent.ifComplete (setDmaBody_evolves b s)) s
  | i2cSetSlaveAddress h v =>
    exact i2cGated_mainStep_evolves (fun s => i2cAgent.ifComplete (setSlaveAddressBody_evolves v s)) s
  | i2cSetTenBitAddressing h b =>
    refine i2cGated_mainStep_evolves (fun s => ?_) s
    exact i2cAgent.ifComplete (i2cAgent.retI2c _ _ (.of_eq (by rfl)))
  | i2cSetClockStretch h b => exact i2cGated_mainStep_evolves (fun _ => i2cAgent.retI2c _ _ (.of_eq (by rfl))) s
  | i2cMasterTransmit h sid daddr daw buf size rs => exact execI2cMasterTransmit_evolves h sid daddr daw buf size rs s
  | i2cMasterReceive h sid daddr daw buf size rs => exact execI2cMasterReceive_evolves h sid daddr daw buf size rs s
  | i2cSlaveTransmit h buf size => exact slaveCall_evolves _ h size (slaveTransmitIdle_evolves buf size) s
  | i2cSlaveReceive h buf size => exact slaveCall_evolves _ h size (slaveReceiveIdle_evolves buf size) s
  | i2cGetGeneralCall h =>
    exact i2cGated_mainStep_evolves (fun _ => runsWithin_ok (i2cAgent.ret _ _ _ (.of_eq (by rfl)))) s
  | i2cGetStatus h => exact i2cGated_mainStep_evolves (fun _ => runsWithin_ok (i2cAgent.ret _ _ _ (.of_eq (by rfl)))) s
  | i2cRegisterCallback h cb => exact i2cGated_mainStep_evolves (fun _ => i2cAgent.retI2c _ _ (.of_eq (by rfl))) s
  | mAddrAck => exact execMAddrAck_evolves s
  | mAddrNack => exact execMAddrNack_evolves s
  | mTxByteAck => exact execMTxByteAck_evolves s
  | mTxByteNack => exact execMTxByteNack_evolves s
  | mTxEnd => exact execMTxEnd_evolves s
  | mRxByte b => exact execMRxByte_evolves b s
  | mRxEnd => exact execMRxEnd_evolves s
  | mAlost => exact execMAlost_evolves s
  | sAddrMatch d => exact execSAddrMatch_evolves d s
  | sRxByte b => exact execSRxByte_evolves b s
  | sTxByte => exact execSTxByte_evolves s
  | sTxUnderflow => exact execSTxUnderflow_evolves s
  | sRepstart d => exact execSRepstart_evolves d s
  | sStop => exact execSStop_evolves s
  | sGcall b => exact execSGcall_evolves b s
  | i2cmIsr => exact i2cAgent.handlerStep masterService_evolves s
  | i2csIsr => exact i2cAgent.handlerStep slaveService_evolves s
  | dmaIsr c => exact execDmaIsr_evolves c s
  | dmaXfer c => exact execDmaXfer_evolves c s
  | _ => simp [rtcGroup, opcodeOf] at hi

end Sys2Proof.Machine

/-! The claims about every instruction, and the invariants that every step keeps, read off the two relations. -/

namespace Sys2Proof.Machine

open Sys2Proof.Cert

/-! ### What no instruction does -/

/-- An instruction stays within the relation of its group (10_state.md R89). -/
theorem exec_evolves {i : Instr} {s t : State} (h : exec i s = .next t) :
    (rtcGroup i = true ∧ RtcEvolves s t) ∨ (rtcGroup i = false ∧ I2cEvolves s t) := by
  cases hi : rtcGroup i with
  | true => exact .inl ⟨rfl, exec_rtcEvolves hi s t h⟩
  | false => exact .inr ⟨rfl, exec_i2cEvolves hi s t h⟩

/-- Lines that differ at most in the RTC's are those of the one with the RTC line of the other. -/
theorem nvic_eq_of_other_lines {n k : Nvic} (h : { n with rtc := false } = { k with rtc := false }) :
    n = { k with rtc := n.rtc } := by
  simp only [Nvic.mk.injEq, true_and] at h
  obtain ⟨hm, hs, hdm, hdst, hdsr⟩ := h
  simp only [← hm, ← hs, ← hdm, ← hdst, ← hdsr]

/-- Settles O16: each group's relation keeps the state of the other group. -/
theorem groupsAreSeparate : Obligations.GroupsAreSeparate := by
  intro i s t h
  rcases exec_evolves h with ⟨hi, hr⟩ | ⟨hi, hc⟩
  · have houtside := hr.outside
    simp only [outsideRtc, Prod.mk.injEq] at houtside
    obtain ⟨_, hm, hsl, hi2cd, htrace, hdma, hlines, hmem⟩ := houtside
    exact ⟨fun _ => ⟨hm, hsl, hi2cd, htrace, hdma, hmem, nvic_eq_of_other_lines hlines⟩, fun hn => by simp [hi] at hn⟩
  · have houtside := hc.outside
    simp only [outsideI2c, Prod.mk.injEq] at houtside
    obtain ⟨_, hrtc, hrtcd, hline⟩ := houtside
    exact ⟨fun hn => by simp [hi] at hn, fun _ => ⟨hrtc, hrtcd, hline⟩⟩

/-- Settles O19: both relations append to the three logs. -/
theorem logsOnlyGrow : Obligations.LogsOnlyGrow := by
  intro i s t h
  rcases exec_evolves h with ⟨_, hr⟩ | ⟨_, hc⟩
  · exact ⟨hr.logs.trace, hr.logs.cblog, hr.logs.main.results_prefix⟩
  · exact ⟨hc.logs.trace, hc.logs.cblog, hc.logs.main.results_prefix⟩

/-! ### Invariants -/

theorem I2cEvolves.keeps_reserved {s t : State} (h : I2cEvolves s t) : ReservedBitsZero s → ReservedBitsZero t := by
  have houtside := h.outside
  simp only [outsideI2c, Prod.mk.injEq] at houtside
  simp only [ReservedBitsZero, houtside, imp_self]

theorem RtcEvolves.keeps_fifos {s t : State} (h : RtcEvolves s t) : FifosWithinDepth s → FifosWithinDepth t := by
  have houtside := h.outside
  simp only [outsideRtc, Prod.mk.injEq] at houtside
  simp only [FifosWithinDepth, houtside, imp_self]

theorem RtcEvolves.keeps_engine {s t : State} (h : RtcEvolves s t) : EngineMatchesMode s → EngineMatchesMode t := by
  have houtside := h.outside
  simp only [outsideRtc, Prod.mk.injEq] at houtside
  simp only [EngineMatchesMode, houtside, imp_self]

/-- An invariant that both groups and both resets keep is kept by every step. -/
theorem step_keeps {P : State → Prop} (hrtc : ∀ s t, RtcEvolves s t → P s → P t)
    (hi2c : ∀ s t, I2cEvolves s t → P s → P t) (hcore : ∀ s, P s → P (coreReset s)) (hpor : ∀ s, P s → P (porReset s))
    (s u : State) (hs : P s) (h : step s = .next u) : P u := by
  obtain ⟨_, t, ht, hu⟩ := step_next h
  have hPt : P t := by
    rcases ht with rfl | ⟨l, rfl⟩
    · exact hs
    · exact hrtc s _ (.of_eq rfl) hs
  rcases hu with rfl | ⟨r, rfl⟩ | ⟨i, hi⟩ | rfl | rfl
  · exact hPt
  · exact hrtc t _ (.of_eq rfl) hPt
  · rcases exec_evolves hi with ⟨_, hr⟩ | ⟨_, hc⟩
    · exact hrtc t u hr hPt
    · exact hi2c t u hc hPt
  · exact hcore t hPt
  · exact hpor t hPt

/-- A POR draws within the defined bits of the control, status and trim groups (70_reset_and_hazards.md R581). -/
theorem porReset_reservedBitsZero (s : State) : ReservedBitsZero (porReset s) := by
  have hcfg : (porReset s).cfg = s.cfg := by
    obtain ⟨e, he, _, _⟩ := drawRtc_state s
    simp only [porReset, coreReset, he]
  refine ⟨masked_outside_mask _ _, failsafeStatus_outside_mask _ rfl, ?_⟩
  rw [hcfg]
  exact masked_outside_mask _ _

/-- Settles O10: the RTC group writes these groups through their masks, the I2C group not at all, and a POR draws within
the masks. -/
theorem stepKeepsReservedBitsZero : Obligations.StepKeepsReservedBitsZero := fun s t =>
  step_keeps (fun _ _ hr => hr.reserved) (fun _ _ hc => hc.keeps_reserved)
    (fun _ hs => hs) (fun s _ => porReset_reservedBitsZero s) s t

/-- Settles O11: a push needs room, everything else leaves a FIFO as it is or shorter, and a reset empties it. -/
theorem stepKeepsFifosWithinDepth : Obligations.StepKeepsFifosWithinDepth := fun s t =>
  have hempty : ∀ n : Nat, ([] : List Byte).length ≤ n := Nat.zero_le
  step_keeps (fun _ _ hr => hr.keeps_fifos) (fun _ _ hc => hc.fifos)
    (fun _ _ => ⟨hempty _, hempty _, hempty _, hempty _⟩) (fun _ _ => ⟨hempty _, hempty _, hempty _, hempty _⟩) s t

/-- The driver after either reset is in PIO and not blocking (10_state.md R67, 70_reset_and_hazards.md R581). -/
theorem engineMatchesMode_of_reset {s : State} (h : s.i2cd = I2cDriver.reset) : EngineMatchesMode s := by
  simp [EngineMatchesMode, h, I2cDriver.reset]

/-- Settles O12: only the initializations, `I2C_UnInit`, `I2C_SetBlockingMode` and `I2C_SetDmaMode` write the mode, and
each keeps the engine in agreement with it. -/
theorem stepKeepsEngineMode : Obligations.StepKeepsEngineMode := fun s t =>
  step_keeps (fun _ _ hr => hr.keeps_engine) (fun _ _ hc => hc.engine)
    (fun _ _ => engineMatchesMode_of_reset rfl) (fun _ _ => engineMatchesMode_of_reset rfl) s t

theorem Returned.pcCountsResults {s t : State} (h : Returned s.main t.main) (hs : PcCountsResults s) :
    PcCountsResults t := by
  obtain ⟨rs, hr, hp⟩ := h
  rw [PcCountsResults, hr, hp, hs, List.length_append]

/-- Settles O14: `main.pc` advances exactly where a result record is appended, and a reset clears both. -/
theorem stepKeepsPcCountsResults : Obligations.StepKeepsPcCountsResults := fun s t =>
  step_keeps (fun _ _ hr => hr.logs.main.pcCountsResults) (fun _ _ hc => hc.logs.main.pcCountsResults) (fun _ _ => rfl)
    (fun _ _ => rfl) s t

end Sys2Proof.Machine

/-! Posted writes: what a post does to a free and to an occupied posting buffer (20_memory.md R104, R105). -/

namespace Sys2Proof.Machine

/-- A draw with an outcome fixed on the tape takes that outcome (00_scope.md R13, log 3). -/
theorem drawBool_of_tape {s : State} {n : Nat} {rest : List Nat} (h : s.env.tape = n :: rest) :
    drawBool s = (n % 2 == 1, { s with env := { s.env with tape := rest } }) := by
  simp only [drawBool, drawNat, h]

/-- A post to an occupied posting buffer is a lost write: the draw says which of the two writes stays. -/
theorem post_occupied {g : Group} {v w : U16} {s : State} (h : s.rtc.posted.get g = some w) :
    post g v s =
      { s with
        env := (drawBool s).2.env
        rtc :=
          { s.rtc with
            posted := if (drawBool s).1 then s.rtc.posted.set g (some v) else s.rtc.posted
            status := s.rtc.status ||| 0x0002#16
            errSrc := BitVec.ofNat 3 (groupNumber g) } } := by
  obtain ⟨e, he, _, _⟩ := drawBool_state s
  simp only [post, h, lostWrite]
  cases (drawBool s).1 with
  | true => simp [he, State.setPosted]
  | false => simp [he]

/-- Settles O23: the draw of a lost write is both the witness of which write stays and the environment after it. -/
theorem postedWrite : Obligations.PostedWrite := by
  intro g v s
  refine ⟨post_free, fun w hw => ⟨(drawBool s).1, (drawBool s).2.env, post_occupied hw, fun n rest htape => ?_⟩⟩
  rw [drawBool_of_tape htape]
  exact ⟨rfl, rfl⟩

end Sys2Proof.Machine

/-! No operation and no handler writes a committed RTC value: the RTC's own post, switch the oscillator on and write the
driver and the line, and the I2C group writes nothing of the RTC (20_memory.md R103 to R105, 10_state.md R89). -/

namespace Sys2Proof.Machine

open Sys2Proof.Cert

/-! ### The relation -/

/-- The committed values that nothing but the slow domain writes, and the in-flight stage (20_memory.md R103). -/
def committedOf (s : State) : U16 × U32 × U32 × U16 × PerGroup (Option U16) :=
  (s.rtc.control, s.rtc.count, s.rtc.alarm, s.rtc.trim, s.rtc.inflight)

/-- The committed values are kept, and the status too but for WERR (20_memory.md R105). -/
structure CommittedKept (s t : State) : Prop where
  values : committedOf t = committedOf s
  status : t.rtc.status = s.rtc.status ∨ t.rtc.status = s.rtc.status ||| 0x0002#16

theorem CommittedKept.of_eq {s t : State} (h : (committedOf t, t.rtc.status) = (committedOf s, s.rtc.status)) :
    CommittedKept s t := by
  simp only [Prod.mk.injEq] at h
  obtain ⟨hvalues, hstatus⟩ := h
  exact ⟨hvalues, .inl hstatus⟩

theorem CommittedKept.of_rtc_eq {s t : State} (h : t.rtc = s.rtc) : CommittedKept s t :=
  .of_eq (by simp only [committedOf, h])

/-- WERR set twice is WERR set once. -/
theorem CommittedKept.trans {s t u : State} (h : CommittedKept s t) (h' : CommittedKept t u) : CommittedKept s u := by
  refine ⟨h'.values.trans h.values, ?_⟩
  rcases h'.status with hu | hu
  · rw [hu]
    exact h.status
  · rcases h.status with ht | ht
    · exact .inr (by rw [hu, ht])
    · exact .inr (by rw [hu, ht, BitVec.or_assoc, BitVec.or_self])

theorem KeepsDevices.rtc_eq {s t : State} (h : KeepsDevices s t) : t.rtc = s.rtc := by
  have hdevices := h.devices
  simp only [devicesOf, Prod.mk.injEq] at hdevices
  obtain ⟨_, hrtc, _⟩ := hdevices
  exact hrtc

theorem committedAgent : AgentRelation CommittedKept := ⟨CommittedKept.trans, fun h => .of_rtc_eq h.rtc_eq⟩

/-! ### Posts -/

/-- A post writes the posting buffer, and in losing a write sets WERR (20_memory.md R104, R105). -/
theorem post_committedKept (g : Group) (v : U16) (s : State) : CommittedKept s (post g v s) := by
  rcases post_cases g v s with ⟨_, h⟩ | ⟨e, p, _, _, _, h⟩
  · rw [h]
    exact .of_eq rfl
  · rw [h]
    exact ⟨rfl, .inr rfl⟩

theorem postSplit_committedKept (lo hi : Group) (v : U32) (s : State) : CommittedKept s (postSplit lo hi v s) :=
  (post_committedKept lo _ s).trans (post_committedKept hi _ _)

/-- The last part of every writing operation: a post, and the return. -/
theorem post_retRtc_committedKept (op : Byte) (c : RtcCode) (g : Group) (v : U16) (s : State) :
    RunsWithin CommittedKept s (retRtc op c (post g v s)) :=
  committedAgent.retRtc _ _ (post_committedKept g v s)

/-! ### The handler (41_rtc_hw.md R280) -/

theorem rtcIsrClear_committedKept (fired : U16) (s : State) : CommittedKept s (rtcIsrClear fired s) :=
  (post_committedKept .status0 fired s).trans (.of_eq (by rfl))

theorem rtcCallback_committedKept (fired : U16) (s : State) : CommittedKept s (rtcCallback fired s) := by
  unfold rtcCallback
  split
  · exact committedAgent.callback _ _ s
  · exact committedAgent.refl s

theorem rtcIsrStart_committedKept (s : State) : CommittedKept s (rtcIsrStart s) := by
  have hcb : CommittedKept s (rtcCallback (rtcFired s) (enterHandler .rtcIsr s)) :=
    CommittedKept.trans (.of_eq (by rfl)) (rtcCallback_committedKept _ _)
  unfold rtcIsrStart
  dsimp only
  split
  · exact hcb.trans (.of_eq (by rfl))
  · exact hcb.trans (rtcIsrClear_committedKept _ _)

theorem execRtcIsr_committedKept (s : State) : StepsWithin CommittedKept s (execRtcIsr s) := by
  unfold execRtcIsr
  split
  · exact committedAgent.eventStep (fun s => runsWithin_ok (rtcIsrClear_committedKept _ s)) s
  · exact committedAgent.eventStep (fun s => runsWithin_ok (rtcIsrStart_committedKept s)) s

/-! ### The operations (40_rtc_ops.md) -/

section
variable {R : State → State → Prop} (hR : AgentRelation R) {op h : Byte} {fsExempt : Bool} {body : State → Run}
include hR

/-- An operation that returns at once after its gate (40_rtc_ops.md R231). -/
theorem AgentRelation.gated_mainStep (hb : ∀ s, RunsWithin R s (body s)) (s : State) :
    StepsWithin R s (Machine.mainStep (Machine.gate op h fsExempt body) noResume s) :=
  hR.mainStep (fun s => hR.gate (hb s)) (fun p _ => runsWithin_noResume p) s

/-- A gated operation with one safe-write stall before its posts (40_rtc_ops.md R230, R231). -/
theorem AgentRelation.stalled_mainStep {gs : List Group} (hb : ∀ s, RunsWithin R s (body s)) (s : State) :
    StepsWithin R s
      (Machine.mainStep (Machine.gate op h fsExempt (Machine.swStall gs .stall body)) (resumeAt .stall body) s) :=
  hR.mainStep (fun s => hR.gate (hR.swStall (hR.refl s) (hb s))) (fun p s => runsWithin_resumeAt p (hb s)) s

end

theorem controlEnable_committedKept (op h : Byte) (m : U16) (b : Bool) (s : State) :
    StepsWithin CommittedKept s (controlEnable op h m b s) :=
  committedAgent.stalled_mainStep (fun s => post_retRtc_committedKept op _ .control _ s) s

theorem gatedGetter_committedKept (op h : Byte) (value : State → U32) (s : State) :
    StepsWithin CommittedKept s (gatedGetter op h value s) :=
  committedAgent.gated_mainStep (fun s => committedAgent.retValue _ _ (committedAgent.refl s)) s

theorem pairedRead_committedKept (op : Byte) (lo hi : Group) (s : State) :
    RunsWithin CommittedKept s (pairedRead op lo hi s) :=
  committedAgent.retValue _ _ (.of_eq (by rfl))

theorem rtcInitFinish_committedKept (s : State) : RunsWithin CommittedKept s (rtcInitFinish s) :=
  runsWithin_ok (committedAgent.ret _ _ _ ((post_committedKept .status0 _ s).trans (.of_eq (by rfl))))

theorem rtcInitControl_committedKept (s : State) : RunsWithin CommittedKept s (rtcInitControl s) :=
  committedAgent.swStall (post_committedKept .control _ s) (rtcInitFinish_committedKept _)

/-- `RTC_Init` writes the oscillator switch, which is no committed value (40_rtc_ops.md R200). -/
theorem rtcInitStart_committedKept (id : Byte) (s : State) : RunsWithin CommittedKept s (rtcInitStart id s) := by
  unfold rtcInitStart
  split
  · exact committedAgent.retRtc _ _ (committedAgent.refl s)
  split
  · exact committedAgent.retRtc _ _ (committedAgent.refl s)
  dsimp only
  split
  · exact committedAgent.retRtc _ _ (.of_eq (by rfl))
  · exact committedAgent.swStall (.of_eq (by rfl)) (rtcInitControl_committedKept _)

theorem execRtcInit_committedKept (id : Byte) (s : State) : StepsWithin CommittedKept s (execRtcInit id s) := by
  refine committedAgent.mainStep (rtcInitStart_committedKept id) (fun p s => ?_) s
  split
  · exact rtcInitControl_committedKept s
  split
  · exact rtcInitFinish_committedKept s
  · exact runsWithin_offPoint

theorem enableInterruptsPost_committedKept (mask : U16) (b : Bool) (s : State) :
    RunsWithin CommittedKept s (enableInterruptsPost mask b s) :=
  committedAgent.retRtc _ _ ((post_committedKept _ _ s).trans (.of_eq (by rfl)))

theorem execRtcEnableInterrupts_committedKept (h : Byte) (mask : U16) (b : Bool) (s : State) :
    StepsWithin CommittedKept s (execRtcEnableInterrupts h mask b s) := by
  refine committedAgent.mainStep (fun s => committedAgent.gate ?_)
    (fun p s => runsWithin_resumeAt p (enableInterruptsPost_committedKept mask b s)) s
  split
  · exact committedAgent.retRtc _ _ (committedAgent.refl s)
  split
  · exact committedAgent.swStall (committedAgent.refl s) (enableInterruptsPost_committedKept mask b s)
  · exact committedAgent.retRtc _ _ (.of_eq (by rfl))

theorem setCountPost_committedKept (v : U32) (s : State) : RunsWithin CommittedKept s (setCountPost v s) := by
  have hpost := postSplit_committedKept .countLo .countHi v s
  unfold setCountPost
  dsimp only
  split
  · exact committedAgent.swStall hpost (post_retRtc_committedKept _ _ .status0 _ _)
  · exact committedAgent.retRtc _ _ hpost

theorem execRtcSetCount_committedKept (h : Byte) (v : U32) (s : State) :
    StepsWithin CommittedKept s (execRtcSetCount h v s) := by
  refine committedAgent.mainStep (fun s => committedAgent.gate
    (committedAgent.swStall (committedAgent.refl s) (setCountPost_committedKept v s))) (fun p s => ?_) s
  split
  · exact setCountPost_committedKept v s
  split
  · exact post_retRtc_committedKept _ _ .status0 _ s
  · exact runsWithin_offPoint

theorem execRtcClearInterruptStatus_committedKept (h : Byte) (mask : U16) (s : State) :
    StepsWithin CommittedKept s (execRtcClearInterruptStatus h mask s) := by
  refine committedAgent.mainStep (fun s => committedAgent.gate ?_)
    (fun p s => runsWithin_resumeAt p (post_retRtc_committedKept _ _ .status0 mask s)) s
  split
  · exact committedAgent.retRtc _ _ (committedAgent.refl s)
  split
  · exact committedAgent.retRtc _ _ (committedAgent.refl s)
  split
  · exact committedAgent.retRtc _ _ (committedAgent.refl s)
  · exact committedAgent.swStall (committedAgent.refl s) (post_retRtc_committedKept _ _ .status0 mask s)

/-- Every operation and the handler of the RTC group keep the committed values; the slow-domain events are neither. -/
theorem exec_rtc_committedKept {i : Instr} (hrtc : rtcGroup i = true) (hi : isOperation i = true ∨ isHandler i = true)
    (s : State) : StepsWithin CommittedKept s (exec i s) := by
  have hsynced : ∀ (op : Byte) (s : State), RunsWithin CommittedKept s (retRtc op .success s) := fun _ s =>
    committedAgent.retRtc _ _ (committedAgent.refl s)
  cases i with
  | rtcInit id => exact execRtcInit_committedKept id s
  | rtcUnInit h => exact committedAgent.gated_mainStep (fun _ => committedAgent.retRtc _ _ (.of_eq (by rfl))) s
  | rtcClearFailSafe =>
    exact committedAgent.mainStep
      (fun s => committedAgent.awaitThen (committedAgent.refl s) (post_retRtc_committedKept _ _ .status0 _ s))
      (fun p s => runsWithin_resumeAt p (post_retRtc_committedKept _ _ .status0 _ s)) s
  | rtcEnableDevice h b => exact controlEnable_committedKept _ h _ b s
  | rtcEnableAlarm h b => exact controlEnable_committedKept _ h _ b s
  | rtcEnableTrim h b => exact controlEnable_committedKept _ h _ b s
  | rtcEnableLcdUpdate h b => exact controlEnable_committedKept _ h _ b s
  | rtcEnableInterrupts h mask b => exact execRtcEnableInterrupts_committedKept h mask b s
  | rtcEnableSafeWrites h b =>
    exact committedAgent.gated_mainStep (fun _ => committedAgent.retRtc _ _ (.of_eq (by rfl))) s
  | rtcGetCount h => exact committedAgent.gated_mainStep (pairedRead_committedKept _ _ _) s
  | rtcSetCount h v => exact execRtcSetCount_committedKept h v s
  | rtcGetAlarm h => exact committedAgent.gated_mainStep (pairedRead_committedKept _ _ _) s
  | rtcSetAlarm h v =>
    exact committedAgent.stalled_mainStep
      (fun s => committedAgent.retRtc _ _ (postSplit_committedKept .alarmLo .alarmHi v s)) s
  | rtcGetTrim h => exact gatedGetter_committedKept _ h _ s
  | rtcSetTrim h v => exact committedAgent.stalled_mainStep (fun s => post_retRtc_committedKept _ _ .trim _ s) s
  | rtcGetInterruptStatus h => exact gatedGetter_committedKept _ h _ s
  | rtcClearInterruptStatus h mask => exact execRtcClearInterruptStatus_committedKept h mask s
  | rtcGetWritePendStatus h => exact gatedGetter_committedKept _ h _ s
  | rtcGetWriteSyncStatus h => exact gatedGetter_committedKept _ h _ s
  | rtcGetWriteErrorSource h => exact gatedGetter_committedKept _ h _ s
  | rtcSynchronizeAllWrites h =>
    exact committedAgent.mainStep
      (fun s => committedAgent.gate (committedAgent.awaitThen (committedAgent.refl s) (hsynced _ s)))
      (fun p s => runsWithin_resumeAt p (hsynced _ s)) s
  | rtcRegisterCallback h cb watch =>
    exact committedAgent.gated_mainStep (fun _ => committedAgent.retRtc _ _ (.of_eq (by rfl))) s
  | rtcIsr => exact execRtcIsr_committedKept s
  | rtcAccept | rtcCommit | rtcSecond | rtcFailsafeLatch => simp [isOperation, isHandler, opcodeOf] at hi
  | _ => simp [rtcGroup, opcodeOf] at hrtc

/-- Settles O18: an operation or handler of the RTC group posts its writes, and one of the I2C group leaves the whole
RTC as it is. -/
theorem committedRtcValuesKept : Obligations.CommittedRtcValuesKept := by
  intro i s t hi h
  have hkept : CommittedKept s t := by
    cases hrtc : rtcGroup i with
    | true => exact exec_rtc_committedKept hrtc hi s t h
    | false =>
      obtain ⟨_, hother⟩ := groupsAreSeparate i s t h
      obtain ⟨hkeep, _, _⟩ := hother hrtc
      exact .of_rtc_eq hkeep
  obtain ⟨hvalues, hstatus⟩ := hkept
  simp only [committedOf, Prod.mk.injEq] at hvalues
  obtain ⟨hcontrol, hcount, halarm, htrim, hinflight⟩ := hvalues
  exact ⟨hcontrol, hcount, halarm, htrim, hinflight, hstatus⟩

end Sys2Proof.Machine

/-! Data memory stays in its canonical form: every agent writes it byte by byte through `memWrite`, and only the
master's and the slave's handler and the DMA engine write it at all (20_memory.md R120). -/

namespace Sys2Proof.Machine

open Sys2Proof.Cert

/-! ### The relation -/

/-- A canonical data memory stays canonical (20_memory.md R120). -/
def KeepsCanonical (s t : State) : Prop := MemoryCanonical s → MemoryCanonical t

theorem KeepsCanonical.trans {s t u : State} (h : KeepsCanonical s t) (h' : KeepsCanonical t u) : KeepsCanonical s u :=
  h' ∘ h

theorem KeepsCanonical.of_mem_eq {s t : State} (h : t.mem = s.mem) : KeepsCanonical s t := by
  simp only [KeepsCanonical, MemoryCanonical, h, imp_self]

theorem KeepsDevices.mem_eq {s t : State} (h : KeepsDevices s t) : t.mem = s.mem := by
  have hdevices := h.devices
  simp only [devicesOf, Prod.mk.injEq] at hdevices
  obtain ⟨_, _, _, _, _, _, _, _, _, hmem⟩ := hdevices
  exact hmem

theorem canonicalAgent : AgentRelation KeepsCanonical := ⟨KeepsCanonical.trans, fun h => .of_mem_eq h.mem_eq⟩

theorem memWrite_keepsCanonical {a : Addr} {v : Byte} {s t : State} (h : memWrite a v s = .ok t) : KeepsCanonical s t :=
  memWrite_wf h

/-! ### What leaves data memory as it is: FIFOs, draws and completions -/

theorem pushMTx_mem {b : Byte} {s t : State} (h : pushMTx b s = .ok t) : t.mem = s.mem := by
  obtain ⟨_, rfl⟩ := pushMTx_ok h
  rfl

theorem pushMRx_mem {b : Byte} {s t : State} (h : pushMRx b s = .ok t) : t.mem = s.mem := by
  obtain ⟨_, rfl⟩ := pushMRx_ok h
  rfl

theorem pushSTx_mem {b : Byte} {s t : State} (h : pushSTx b s = .ok t) : t.mem = s.mem := by
  obtain ⟨_, rfl⟩ := pushSTx_ok h
  rfl

theorem pushSRx_mem {b : Byte} {s t : State} (h : pushSRx b s = .ok t) : t.mem = s.mem := by
  obtain ⟨_, rfl⟩ := pushSRx_ok h
  rfl

theorem popMTx_mem {s : State} {p : Byte × State} (h : popMTx s = .ok p) : p.2.mem = s.mem := by
  obtain ⟨f, _, hp⟩ := popMTx_ok h
  rw [hp]

theorem popMRx_mem {s : State} {p : Byte × State} (h : popMRx s = .ok p) : p.2.mem = s.mem := by
  obtain ⟨f, _, hp⟩ := popMRx_ok h
  rw [hp]

theorem popSTx_mem {s : State} {p : Byte × State} (h : popSTx s = .ok p) : p.2.mem = s.mem := by
  obtain ⟨f, _, hp⟩ := popSTx_ok h
  rw [hp]

theorem popSRx_mem {s : State} {p : Byte × State} (h : popSRx s = .ok p) : p.2.mem = s.mem := by
  obtain ⟨f, _, hp⟩ := popSRx_ok h
  rw [hp]

theorem DrawnFrom.mem_eq {s t : State} (h : DrawnFrom s t) : t.mem = s.mem := by
  obtain ⟨e, rfl, _, _⟩ := h
  rfl

@[simp] theorem drawBool_mem (s : State) : (drawBool s).2.mem = s.mem := (drawBool_state s).mem_eq

@[simp] theorem drawBits_mem (w : Nat) (s : State) : (drawBits w s).2.mem = s.mem := (drawBits_state w s).mem_eq

@[simp] theorem signalCompletion_mem (r : I2CResult) (s : State) : (signalCompletion r s).mem = s.mem := by
  rcases signalCompletion_cases r s with ⟨_, h⟩ | ⟨_, h⟩
  · rw [h]
  · rw [h]

/-! ### DMA (44_i2c_dma.md): the scheduler and the descriptors -/

@[simp] theorem setChannels_mem (b : Bool) : ∀ (cs : List Chan) (s : State), (setChannels b cs s).mem = s.mem
  | [], _ => rfl
  | c :: cs, s => setChannels_mem b cs ((s.setChannel c Channel.reset).setLine (lineOfChan c) b)

@[simp] theorem dmaTakeChannels_mem (s : State) : (dmaTakeChannels s).2.mem = s.mem := by
  unfold dmaTakeChannels
  dsimp only
  split
  · simp only [setChannels_mem, drawBool_mem]
  · exact drawBool_mem s

@[simp] theorem dmaReleaseChannels_mem (s : State) : (dmaReleaseChannels s).2.mem = s.mem := by
  unfold dmaReleaseChannels
  dsimp only
  split
  · simp only [setChannels_mem, drawBool_mem]
  · exact drawBool_mem s

@[simp] theorem dmaSyncRem_mem (c : Chan) (s : State) : (dmaSyncRem c s).mem = s.mem := by
  unfold dmaSyncRem
  split
  · rfl
  · rfl

@[simp] theorem scheduleNext_mem (s : State) : (scheduleNext s).mem = s.mem := by
  unfold scheduleNext
  dsimp only
  split
  · rfl
  · rfl

@[simp] theorem dmaStart_mem (c : Chan) (buf : Addr) (size : Nat) (s : State) :
    (dmaStart c buf size s).mem = s.mem := by
  simp only [dmaStart, dmaSyncRem_mem, setChannel_mem, scheduleNext_mem]

@[simp] theorem dmaStop_mem (c : Chan) (s : State) : (dmaStop c s).mem = s.mem := rfl

@[simp] theorem noteFilled_mem (c : Chan) (s : State) : (noteFilled c s).mem = s.mem := by
  unfold noteFilled
  split
  · rfl
  · rfl

@[simp] theorem dmaDisableRequest_mem (c : Chan) (s : State) : (dmaDisableRequest c s).mem = s.mem := by
  cases c with
  | m => rfl
  | stx => rfl
  | srx => rfl

@[simp] theorem dmaComplete_mem (c : Chan) (s : State) : (dmaComplete c s).mem = s.mem := by
  unfold dmaComplete
  dsimp only
  split
  · simp only [dmaSyncRem_mem, dmaDisableRequest_mem]
  · simp only [signalCompletion_mem, noteFilled_mem, dmaSyncRem_mem, dmaDisableRequest_mem]

/-- Moving one element writes at most one byte, at the descriptor's pointer (44_i2c_dma.md R470). -/
theorem moveElement_keepsCanonical (c : Chan) (d : Desc) (s : State) :
    RunsWithin KeepsCanonical s (moveElement c d s) := by
  unfold moveElement
  split
  · refine runsWithin_bind fun b _ => ?_
    cases c with
    | m => exact fun _ h => .of_mem_eq (pushMTx_mem h)
    | stx => exact fun _ h => .of_mem_eq (pushSTx_mem h)
    | srx => exact runsWithin_error _
  · cases c with
    | m => exact runsWithin_bind fun _ hp _ ht => .trans (.of_mem_eq (popMRx_mem hp)) (memWrite_keepsCanonical ht)
    | stx => exact runsWithin_error _
    | srx => exact runsWithin_bind fun _ hp _ ht => .trans (.of_mem_eq (popSRx_mem hp)) (memWrite_keepsCanonical ht)

theorem execDmaXfer_keepsCanonical (c : Chan) (s : State) : StepsWithin KeepsCanonical s (execDmaXfer c s) :=
  canonicalAgent.eventStep
    (fun s => runsWithin_bind fun u hu =>
      runsWithin_ok ((moveElement_keepsCanonical c _ s u hu).trans (.of_mem_eq (by rfl)))) s

theorem dmaService_keepsCanonical (c : Chan) (s : State) : RunsWithin KeepsCanonical s (dmaService c s) := by
  unfold dmaService
  refine runsWithin_ite (fun _ => runsWithin_ok (.of_mem_eq (by rfl))) fun _ => ?_
  refine runsWithin_ite (fun _ => runsWithin_ok (.of_mem_eq (by rw [dmaComplete_mem, setChannel_mem]))) fun _ => ?_
  refine runsWithin_ite (fun _ => ?_) fun _ => runsWithin_ok (.of_mem_eq (by rfl))
  refine runsWithin_ite (fun _ => runsWithin_error _) fun _ => runsWithin_ok (.of_mem_eq ?_)
  rw [dmaSyncRem_mem, scheduleNext_mem, setChannel_mem]

theorem execDmaIsr_keepsCanonical (c : Chan) (s : State) : StepsWithin KeepsCanonical s (execDmaIsr c s) :=
  canonicalAgent.handlerStep (dmaService_keepsCanonical c) s

/-! ### Lifecycle and configuration (42_i2c_master.md R320 to R328) -/

/-- A return from a state whose data memory is that of the start. -/
theorem retI2c_keepsCanonical {s u : State} (op : Byte) (c : I2CCode) (h : u.mem = s.mem) :
    RunsWithin KeepsCanonical s (retI2c op c u) :=
  canonicalAgent.retI2c _ _ (.of_mem_eq h)

theorem i2cInit_keepsCanonical (op id : Byte) (mode : Mode) {setup : State → State}
    (hsetup : ∀ s, (setup s).mem = s.mem) (s : State) : RunsWithin KeepsCanonical s (i2cInit op id mode setup s) := by
  have hdraw : (if s.cfg.rtos then drawBool s else (true, s)).2.mem = s.mem := by
    split
    · exact drawBool_mem s
    · rfl
  unfold i2cInit
  split
  · exact retI2c_keepsCanonical _ _ rfl
  split
  · exact retI2c_keepsCanonical _ _ rfl
  refine runsWithin_ite (fun _ => runsWithin_ok ?_) fun _ => retI2c_keepsCanonical _ _ hdraw
  exact canonicalAgent.ret _ _ _ (.of_mem_eq ((hsetup _).trans hdraw))

theorem unInitFinish_keepsCanonical {s u : State} (h : u.mem = s.mem) :
    RunsWithin KeepsCanonical s (unInitFinish u) :=
  retI2c_keepsCanonical _ _ h

theorem unInitBody_keepsCanonical (s : State) : RunsWithin KeepsCanonical s (unInitBody s) := by
  unfold unInitBody
  split
  · exact retI2c_keepsCanonical _ _ rfl
  split
  · dsimp only
    split
    · exact unInitFinish_keepsCanonical (dmaReleaseChannels_mem s)
    · exact retI2c_keepsCanonical _ _ (dmaReleaseChannels_mem s)
  · exact unInitFinish_keepsCanonical rfl

theorem setBlockingBody_keepsCanonical (b : Bool) (s : State) : RunsWithin KeepsCanonical s (setBlockingBody b s) := by
  unfold setBlockingBody
  split
  · exact retI2c_keepsCanonical _ _ rfl
  · exact retI2c_keepsCanonical _ _ rfl

theorem setDmaBody_keepsCanonical (b : Bool) (s : State) : RunsWithin KeepsCanonical s (setDmaBody b s) := by
  have hchan : (if b then dmaTakeChannels s else dmaReleaseChannels s).2.mem = s.mem := by
    split
    · exact dmaTakeChannels_mem s
    · exact dmaReleaseChannels_mem s
  unfold setDmaBody
  split
  · exact retI2c_keepsCanonical _ _ rfl
  split
  · exact retI2c_keepsCanonical _ _ rfl
  · exact runsWithin_ite (fun _ => retI2c_keepsCanonical _ _ hchan) fun _ => retI2c_keepsCanonical _ _ hchan

theorem setSlaveAddressBody_keepsCanonical (v : U16) (s : State) :
    RunsWithin KeepsCanonical s (setSlaveAddressBody v s) := by
  unfold setSlaveAddressBody
  split
  · exact retI2c_keepsCanonical _ _ rfl
  · exact retI2c_keepsCanonical _ _ rfl

/-! ### The shared procedures of the master (42_i2c_master.md R329 to R340) -/

@[simp] theorem writeAdr1_mem (b : Byte) (s : State) : (writeAdr1 b s).mem = s.mem := by
  unfold writeAdr1
  dsimp only
  split
  · rfl
  split
  · rfl
  · rfl

@[simp] theorem launch_mem (sid : U16) (d : Dir) (s : State) : (launch sid d s).mem = s.mem := by
  unfold launch
  split
  · exact writeAdr1_mem _ _
  · exact writeAdr1_mem _ s

/-- `pumpTx` reads the buffer and never writes it (42_i2c_master.md R333). -/
theorem pumpTx_mem {s t : State} (h : pumpTx s = .ok t) : t.mem = s.mem := by
  unfold pumpTx at h
  split at h
  · obtain ⟨u, hu, h⟩ := except_bind_ok h
    cases h
    exact (pushMTx_mem hu :)
  split at h
  · obtain ⟨b, _, h⟩ := except_bind_ok h
    obtain ⟨u, hu, h⟩ := except_bind_ok h
    cases h
    exact (pushMTx_mem hu :)
  · cases h
    exact signalCompletion_mem _ _

theorem pumpRxByte_keepsCanonical (s : State) : RunsWithin KeepsCanonical s (pumpRxByte s) := by
  unfold pumpRxByte
  split
  · exact runsWithin_bind fun _ hp => runsWithin_bind fun _ ht =>
      runsWithin_ok (.trans (.of_mem_eq (popMRx_mem hp)) ((memWrite_keepsCanonical ht).trans (.of_mem_eq (by rfl))))
  · exact runsWithin_ok (.of_mem_eq rfl)

@[simp] theorem pumpRxEnd_mem (s : State) : (pumpRxEnd s).mem = s.mem := by
  unfold pumpRxEnd
  split
  · exact signalCompletion_mem _ _
  · rfl

theorem pumpRx_keepsCanonical (s : State) : RunsWithin KeepsCanonical s (pumpRx s) :=
  runsWithin_map fun t ht => (pumpRxByte_keepsCanonical s t ht).trans (.of_mem_eq (pumpRxEnd_mem t))

@[simp] theorem programRxCount_mem (n : Nat) (s : State) : (programRxCount n s).mem = s.mem := by
  unfold programRxCount
  split
  · rfl
  · rfl

/-! ### The master transfers (42_i2c_master.md R330, R331) -/

@[simp] theorem transmitFields_mem (sid : U16) (daddr : U32) (daw : Byte) (buf : Addr) (size : U16) (rs : Bool)
    (s : State) : (transmitFields sid daddr daw buf size rs s).mem = s.mem := rfl

theorem transmitEngine_mem {buf : Addr} {size : U16} {rs : Bool} {s t : State}
    (h : transmitEngine buf size rs s = .ok t) : t.mem = s.mem := by
  unfold transmitEngine at h
  split at h
  · exact (pumpTx_mem h :)
  · cases h
    exact dmaStart_mem _ _ _ _

theorem transferReturn_keepsCanonical {s u : State} (op : Byte) (h : u.mem = s.mem) :
    RunsWithin KeepsCanonical s (transferReturn op u) :=
  retI2c_keepsCanonical _ _ h

theorem waitThen_keepsCanonical {p : Point} {rest : State → Run} {s u : State} (h : u.mem = s.mem)
    (hr : RunsWithin KeepsCanonical s (rest (endWait u))) : RunsWithin KeepsCanonical s (waitThen p rest u) :=
  canonicalAgent.awaitThen (.of_mem_eq h) (canonicalAgent.runsWithin_trans (.of_mem_eq h.symm) hr)

theorem transferEnd_keepsCanonical {s u : State} (op : Byte) (h : u.mem = s.mem) :
    RunsWithin KeepsCanonical s (transferEnd op u) := by
  unfold transferEnd
  split
  · exact waitThen_keepsCanonical h (transferReturn_keepsCanonical op h)
  · exact retI2c_keepsCanonical _ _ h

theorem transmitIdle_keepsCanonical (sid : U16) (daddr : U32) (daw : Byte) (buf : Addr) (size : U16) (rs : Bool)
    (s : State) : RunsWithin KeepsCanonical s (transmitIdle sid daddr daw buf size rs s) :=
  runsWithin_bind fun _ ht => transferEnd_keepsCanonical _ (by
    rw [launch_mem, transmitEngine_mem ht, transmitFields_mem])

theorem execI2cMasterTransmit_keepsCanonical (h : Byte) (sid : U16) (daddr : U32) (daw : Byte) (buf : Addr)
    (size : U16) (rs : Bool) (s : State) :
    StepsWithin KeepsCanonical s (execI2cMasterTransmit h sid daddr daw buf size rs s) := by
  refine canonicalAgent.mainStep
    (fun s => canonicalAgent.i2cGate (canonicalAgent.checkMaster
      (canonicalAgent.awaitThen (canonicalAgent.refl s) (transmitIdle_keepsCanonical _ _ _ _ _ _ s))))
    (fun p s => ?_) s
  split
  · exact transmitIdle_keepsCanonical _ _ _ _ _ _ s
  split
  · exact transferReturn_keepsCanonical _ rfl
  · exact runsWithin_offPoint

@[simp] theorem subFields_mem (sid : U16) (daddr : U32) (daw : Byte) (rs : Bool) (s : State) :
    (subFields sid daddr daw rs s).mem = s.mem := rfl

@[simp] theorem receiveFields_mem (sid : U16) (buf : Addr) (size : U16) (rsRead : Bool) (s : State) :
    (receiveFields sid buf size rsRead s).mem = s.mem :=
  programRxCount_mem size.toNat _

@[simp] theorem receiveEngine_mem (buf : Addr) (size : U16) (rsRead : Bool) (s : State) :
    (receiveEngine buf size rsRead s).mem = s.mem := by
  unfold receiveEngine
  split
  · rfl
  · exact dmaStart_mem _ _ _ _

theorem receiveIdle_keepsCanonical {s u : State} (sid : U16) (buf : Addr) (size : U16) (rsRead : Bool)
    (h : u.mem = s.mem) : RunsWithin KeepsCanonical s (receiveIdle sid buf size rsRead u) :=
  transferEnd_keepsCanonical _ (by rw [launch_mem, receiveEngine_mem, receiveFields_mem, h])

theorem receivePhase_keepsCanonical {s u : State} (sid : U16) (buf : Addr) (size : U16) (rsRead : Bool)
    (h : u.mem = s.mem) : RunsWithin KeepsCanonical s (receivePhase sid buf size rsRead u) :=
  canonicalAgent.awaitThen (.of_mem_eq h) (receiveIdle_keepsCanonical _ _ _ _ rfl)

theorem subEnd_keepsCanonical {s u : State} (sid : U16) (buf : Addr) (size : U16) (h : u.mem = s.mem) :
    RunsWithin KeepsCanonical s (subEnd sid buf size u) := by
  unfold subEnd
  split
  · exact receivePhase_keepsCanonical _ _ _ _ h
  · exact retI2c_keepsCanonical _ _ h

theorem subTransaction_keepsCanonical (sid : U16) (daddr : U32) (daw : Byte) (buf : Addr) (size : U16) (rs : Bool)
    (s : State) : RunsWithin KeepsCanonical s (subTransaction sid daddr daw buf size rs s) := by
  refine runsWithin_bind fun t ht => ?_
  have hlaunched : (launch sid .W t).mem = s.mem := by rw [launch_mem, pumpTx_mem ht, subFields_mem]
  exact waitThen_keepsCanonical hlaunched (subEnd_keepsCanonical _ _ _ hlaunched)

theorem receiveStart_keepsCanonical (sid : U16) (daddr : U32) (daw : Byte) (buf : Addr) (size : U16) (rs : Bool)
    (s : State) : RunsWithin KeepsCanonical s (receiveStart sid daddr daw buf size rs s) := by
  unfold receiveStart
  split
  · exact canonicalAgent.awaitThen (canonicalAgent.refl s) (subTransaction_keepsCanonical _ _ _ _ _ _ s)
  · exact receivePhase_keepsCanonical _ _ _ _ rfl

theorem execI2cMasterReceive_keepsCanonical (h : Byte) (sid : U16) (daddr : U32) (daw : Byte) (buf : Addr)
    (size : U16) (rs : Bool) (s : State) :
    StepsWithin KeepsCanonical s (execI2cMasterReceive h sid daddr daw buf size rs s) := by
  refine canonicalAgent.mainStep
    (fun s => canonicalAgent.i2cGate (canonicalAgent.checkMaster (receiveStart_keepsCanonical _ _ _ _ _ _ s)))
    (fun p s => ?_) s
  split
  · exact subTransaction_keepsCanonical _ _ _ _ _ _ s
  split
  · exact subEnd_keepsCanonical _ _ _ rfl
  split
  · exact receiveIdle_keepsCanonical _ _ _ _ rfl
  split
  · exact transferReturn_keepsCanonical _ rfl
  · exact runsWithin_offPoint

/-! ### The slave transfers (43_i2c_slave.md R410, R411) -/

/-- A byte for the slave TX FIFO is read from the buffer, which is not written (43_i2c_slave.md R410, R432). -/
theorem slaveTxByte_mem {s t : State} (h : slaveTxByte s = .ok t) : t.mem = s.mem := by
  unfold slaveTxByte at h
  obtain ⟨b, _, h⟩ := except_bind_ok h
  obtain ⟨u, hu, h⟩ := except_bind_ok h
  cases h
  exact (pushSTx_mem hu :)

theorem slaveBurst_mem : ∀ {n : Nat} {s t : State}, slaveBurst n s = .ok t → t.mem = s.mem
  | 0, _, _, h => by
    cases h
    rfl
  | n + 1, s, t, h => by
    unfold slaveBurst at h
    split at h
    · obtain ⟨u, hu, h⟩ := except_bind_ok h
      exact (slaveBurst_mem h).trans (slaveTxByte_mem hu)
    · cases h
      rfl

@[simp] theorem slaveTransmitFields_mem (buf : Addr) (size : U16) (s : State) :
    (slaveTransmitFields buf size s).mem = s.mem := rfl

theorem slaveTransmitEngine_mem {buf : Addr} {size : U16} {s t : State}
    (h : slaveTransmitEngine buf size s = .ok t) : t.mem = s.mem := by
  unfold slaveTransmitEngine at h
  split at h
  · obtain ⟨u, hu, h⟩ := except_bind_ok h
    cases h
    exact (slaveBurst_mem hu :)
  · cases h
    exact dmaStart_mem _ _ _ _

@[simp] theorem slaveReceiveFields_mem (buf : Addr) (size : U16) (s : State) :
    (slaveReceiveFields buf size s).mem = s.mem := rfl

@[simp] theorem slaveReceiveEngine_mem (buf : Addr) (size : U16) (s : State) :
    (slaveReceiveEngine buf size s).mem = s.mem := by
  unfold slaveReceiveEngine
  split
  · rfl
  · exact dmaStart_mem _ _ _ _

theorem slaveReturn_keepsCanonical {s u : State} (op : Byte) (h : u.mem = s.mem) :
    RunsWithin KeepsCanonical s (slaveReturn op u) :=
  runsWithin_ok (canonicalAgent.ret _ _ _ (.of_mem_eq h))

theorem slaveCallEnd_keepsCanonical {s u : State} (op : Byte) (h : u.mem = s.mem) :
    RunsWithin KeepsCanonical s (slaveCallEnd op u) := by
  unfold slaveCallEnd
  split
  · exact waitThen_keepsCanonical h (slaveReturn_keepsCanonical op h)
  · exact retI2c_keepsCanonical _ _ h

@[simp] theorem slaveRelease_mem (s : State) : (slaveRelease s).mem = s.mem := rfl

theorem slaveTransmitIdle_keepsCanonical (buf : Addr) (size : U16) (s : State) :
    RunsWithin KeepsCanonical s (slaveTransmitIdle buf size s) :=
  runsWithin_bind fun _ ht => slaveCallEnd_keepsCanonical _ (by
    rw [slaveRelease_mem, slaveTransmitEngine_mem ht, slaveTransmitFields_mem])

theorem slaveReceiveIdle_keepsCanonical (buf : Addr) (size : U16) (s : State) :
    RunsWithin KeepsCanonical s (slaveReceiveIdle buf size s) :=
  slaveCallEnd_keepsCanonical _ (by rw [slaveRelease_mem, slaveReceiveEngine_mem, slaveReceiveFields_mem])

theorem slaveCall_keepsCanonical (op h : Byte) (size : U16) {idle : State → Run}
    (hidle : ∀ s, RunsWithin KeepsCanonical s (idle s)) (s : State) :
    StepsWithin KeepsCanonical s (slaveCall op h size idle s) := by
  refine canonicalAgent.mainStep (fun s => canonicalAgent.i2cGate ?_) (fun p s => ?_) s
  · split
    · exact retI2c_keepsCanonical _ _ rfl
    · exact canonicalAgent.slaveCheck (canonicalAgent.awaitThen (canonicalAgent.refl s) (hidle s))
  · split
    · exact hidle s
    split
    · exact slaveReturn_keepsCanonical op rfl
    · exact runsWithin_offPoint

/-! ### The bus events (42_i2c_master.md R360 to R368, 43_i2c_slave.md R420 to R427) -/

/-- A bus event that cannot stop and leaves data memory as it was. -/
theorem updateEvent_keepsCanonical {enabled : State → Bool} {update : State → State}
    (h : ∀ s, (update s).mem = s.mem) (s : State) :
    StepsWithin KeepsCanonical s (eventStep enabled (fun t => .ok (update t)) s) :=
  canonicalAgent.eventStep (fun s => runsWithin_ok (.of_mem_eq (h s))) s

/-- A bus event that moves one byte out of a FIFO or into it, and then leaves data memory as it was. -/
theorem fifoEvent_keepsCanonical {α : Type} (st : α → State) {enabled : State → Bool}
    {move : State → Except Stop α} {rest : α → State} (hmove : ∀ s a, move s = .ok a → (st a).mem = s.mem)
    (hrest : ∀ a, (rest a).mem = (st a).mem) (s : State) :
    StepsWithin KeepsCanonical s (eventStep enabled (fun t => move t >>= fun a => .ok (rest a)) s) :=
  canonicalAgent.eventStep
    (fun s => runsWithin_bind fun a ha => runsWithin_ok (.of_mem_eq ((hrest a).trans (hmove s a ha)))) s

theorem execMAddrAck_keepsCanonical (s : State) : StepsWithin KeepsCanonical s (execMAddrAck s) :=
  updateEvent_keepsCanonical (fun _ => by rfl) s

theorem execMAddrNack_keepsCanonical (s : State) : StepsWithin KeepsCanonical s (execMAddrNack s) :=
  updateEvent_keepsCanonical (fun _ => by rfl) s

theorem execMTxEnd_keepsCanonical (s : State) : StepsWithin KeepsCanonical s (execMTxEnd s) :=
  updateEvent_keepsCanonical (fun _ => by rfl) s

theorem execMRxEnd_keepsCanonical (s : State) : StepsWithin KeepsCanonical s (execMRxEnd s) :=
  updateEvent_keepsCanonical (fun _ => by rfl) s

theorem execMAlost_keepsCanonical (s : State) : StepsWithin KeepsCanonical s (execMAlost s) :=
  updateEvent_keepsCanonical (fun _ => by rfl) s

theorem execSAddrMatch_keepsCanonical (d : Dir) (s : State) : StepsWithin KeepsCanonical s (execSAddrMatch d s) :=
  updateEvent_keepsCanonical (fun _ => by rfl) s

theorem execSRepstart_keepsCanonical (d : Dir) (s : State) : StepsWithin KeepsCanonical s (execSRepstart d s) :=
  updateEvent_keepsCanonical (fun _ => by rfl) s

theorem execSStop_keepsCanonical (s : State) : StepsWithin KeepsCanonical s (execSStop s) :=
  updateEvent_keepsCanonical (fun _ => by rfl) s

theorem execSGcall_keepsCanonical (b : Byte) (s : State) : StepsWithin KeepsCanonical s (execSGcall b s) :=
  updateEvent_keepsCanonical (fun _ => by rfl) s

theorem execSTxUnderflow_keepsCanonical (s : State) : StepsWithin KeepsCanonical s (execSTxUnderflow s) :=
  updateEvent_keepsCanonical (fun s => by rw [emit_mem, drawBits_mem]) s

theorem execMTxByteAck_keepsCanonical (s : State) : StepsWithin KeepsCanonical s (execMTxByteAck s) :=
  fifoEvent_keepsCanonical Prod.snd (fun _ _ hp => popMTx_mem hp) (fun _ => by rfl) s

theorem execMTxByteNack_keepsCanonical (s : State) : StepsWithin KeepsCanonical s (execMTxByteNack s) :=
  fifoEvent_keepsCanonical Prod.snd (fun _ _ hp => popMTx_mem hp) (fun _ => by rfl) s

theorem execSTxByte_keepsCanonical (s : State) : StepsWithin KeepsCanonical s (execSTxByte s) :=
  fifoEvent_keepsCanonical Prod.snd (fun _ _ hp => popSTx_mem hp) (fun _ => by rfl) s

theorem execMRxByte_keepsCanonical (b : Byte) (s : State) : StepsWithin KeepsCanonical s (execMRxByte b s) :=
  fifoEvent_keepsCanonical id (fun _ _ hu => pushMRx_mem hu) (fun _ => by rfl) s

theorem execSRxByte_keepsCanonical (b : Byte) (s : State) : StepsWithin KeepsCanonical s (execSRxByte b s) :=
  canonicalAgent.eventStep (fun _ => runsWithin_map fun _ ht => .of_mem_eq (by rw [emit_mem, pushSRx_mem ht])) s

/-! ### The master handler (42_i2c_master.md R370 to R373) -/

@[simp] theorem repeatStartCheck_mem (s : State) : (repeatStartCheck s).mem = s.mem := by
  unfold repeatStartCheck
  split
  · dsimp only
    split
    · exact writeAdr1_mem _ _
    · rfl
  · rfl

theorem fifoPump_keepsCanonical (s : State) : RunsWithin KeepsCanonical s (fifoPump s) := by
  unfold fifoPump
  split
  · split
    · exact pumpRx_keepsCanonical s
    · exact fun _ ht => .of_mem_eq (pumpTx_mem ht)
  · exact runsWithin_ok (.of_mem_eq (by rfl))

theorem fifoService_keepsCanonical (s : State) : RunsWithin KeepsCanonical s (fifoService s) :=
  canonicalAgent.runsWithin_trans (.of_mem_eq (repeatStartCheck_mem s)) (fifoPump_keepsCanonical _)

@[simp] theorem tcompService_mem (s : State) : (tcompService s).mem = s.mem := by
  unfold tcompService
  split
  · rfl
  · exact signalCompletion_mem _ _

@[simp] theorem masterError_mem (s : State) : (masterError s).mem = s.mem := signalCompletion_mem _ _

theorem masterService_keepsCanonical (s : State) : RunsWithin KeepsCanonical s (masterService s) := by
  have htcomp : ∀ t, KeepsCanonical s t →
      RunsWithin KeepsCanonical s (.ok (if t.m.tcomp then tcompService t else t)) := by
    intro t ht
    split
    · exact runsWithin_ok (ht.trans (.of_mem_eq (tcompService_mem t)))
    · exact runsWithin_ok ht
  unfold masterService
  split
  · exact runsWithin_ok (.of_mem_eq (masterError_mem s))
  split
  · exact runsWithin_bind fun t ht => htcomp t (fifoService_keepsCanonical s t ht)
  · exact htcomp s (canonicalAgent.refl s)

/-! ### The slave handler (43_i2c_slave.md R430 to R436) -/

theorem storeSlaveByte_keepsCanonical (x : Byte) (s : State) : RunsWithin KeepsCanonical s (storeSlaveByte x s) :=
  runsWithin_bind fun _ ht => runsWithin_ok ((memWrite_keepsCanonical ht).trans (.of_mem_eq (by rfl)))

/-- A received byte is stored for the active call, or discarded (43_i2c_slave.md R431). -/
theorem onSlaveRx_keepsCanonical {p q : Pass} (h : onSlaveRx p = .ok q) : KeepsCanonical p.st q.st := by
  unfold onSlaveRx at h
  obtain ⟨x, hx, h⟩ := except_bind_ok h
  have hpop : KeepsCanonical p.st x.2 := .of_mem_eq (popSRx_mem hx)
  split at h
  · obtain ⟨t, ht, h⟩ := except_bind_ok h
    have hstore : KeepsCanonical p.st t := hpop.trans (storeSlaveByte_keepsCanonical _ _ t ht)
    cases h
    split
    · exact hstore
    · exact hstore
  · cases h
    exact hpop

theorem onSlaveTx_mem {p q : Pass} (h : onSlaveTx p = .ok q) : q.st.mem = p.st.mem := by
  unfold onSlaveTx at h
  split at h
  · obtain ⟨t, ht, h⟩ := except_bind_ok h
    cases h
    exact slaveTxByte_mem ht
  · cases h
    rfl

@[simp] theorem dmaNoteSlaveProgress_mem (p : Pass) : (dmaNoteSlaveProgress p).st.mem = p.st.mem := by
  unfold dmaNoteSlaveProgress
  split
  · rfl
  · simp only [dmaStop_mem, noteFilled_mem, dmaSyncRem_mem]

@[simp] theorem noteIfDma_mem (p : Pass) : (noteIfDma p).st.mem = p.st.mem := by
  unfold noteIfDma
  split
  · exact dmaNoteSlaveProgress_mem p
  · rfl

@[simp] theorem stretchHold_mem (s : State) : (stretchHold s).mem = s.mem := by
  unfold stretchHold
  split
  · rfl
  · rfl

@[simp] theorem slaveExit_mem (r : I2CResult) (p : Pass) : (slaveExit r p).mem = p.st.mem := by
  unfold slaveExit
  dsimp only
  rw [signalCompletion_mem]
  split
  · exact dmaNoteSlaveProgress_mem _
  · rfl

@[simp] theorem passRepstart_mem (p : Pass) : (passRepstart p).st.mem = p.st.mem := by
  unfold passRepstart
  split
  · exact (noteIfDma_mem _).trans (stretchHold_mem _)
  · rfl

@[simp] theorem passStop_mem (p : Pass) : (passStop p).st.mem = p.st.mem := by
  unfold passStop
  split
  · exact noteIfDma_mem _
  · rfl

@[simp] theorem passGcall_mem (p : Pass) : (passGcall p).st.mem = p.st.mem := by
  unfold passGcall
  split
  · rfl
  · rfl

@[simp] theorem passExit_mem (p : Pass) : (passExit p).mem = p.st.mem := by
  unfold passExit
  split
  · exact slaveExit_mem _ p
  · rfl

/-- Only the RX service of a pass writes data memory; the TX service and the latched bits leave it (R430 to R436). -/
theorem slaveService_keepsCanonical (s : State) : RunsWithin KeepsCanonical s (slaveService s) := by
  have hlatches : ∀ p, KeepsCanonical s p.st →
      RunsWithin KeepsCanonical s (.ok (passExit (passGcall (passStop (passRepstart p))))) := fun p hp =>
    runsWithin_ok (hp.trans (.of_mem_eq (by rw [passExit_mem, passGcall_mem, passStop_mem, passRepstart_mem])))
  have htx : ∀ p, KeepsCanonical s p.st → RunsWithin KeepsCanonical s (do
      let q ← if p.st.sl.ie.txreq && txreqS p.st then onSlaveTx p else .ok p
      .ok (passExit (passGcall (passStop (passRepstart q))))) := fun p hp =>
    runsWithin_ite
      (fun _ => runsWithin_bind fun q hq => hlatches q (hp.trans (.of_mem_eq (onSlaveTx_mem hq))))
      fun _ => hlatches p hp
  exact runsWithin_ite (fun _ => runsWithin_bind fun p hp => htx p (onSlaveRx_keepsCanonical hp)) fun _ =>
    htx _ (canonicalAgent.refl s)

/-! ### Every instruction and every step -/

/-- A gated operation of the I2C driver that returns at once (42_i2c_master.md R328). -/
theorem AgentRelation.i2cGated_mainStep {R : State → State → Prop} (hR : AgentRelation R) {op h : Byte}
    {modes : List Mode} {body : State → Run} (hb : ∀ s, RunsWithin R s (body s)) (s : State) :
    StepsWithin R s (Machine.mainStep (Machine.i2cGate op h modes body) noResume s) :=
  hR.mainStep (fun s => hR.i2cGate (hb s)) (fun p _ => runsWithin_noResume p) s

/-- Every instruction outside the RTC group keeps data memory canonical. -/
theorem exec_i2c_keepsCanonical {i : Instr} (hi : rtcGroup i = false) (s : State) :
    StepsWithin KeepsCanonical s (exec i s) := by
  have gated {op h : Byte} {modes : List Mode} {body : State → Run}
      (hb : ∀ s, RunsWithin KeepsCanonical s (body s)) :
      StepsWithin KeepsCanonical s (mainStep (i2cGate op h modes body) noResume s) :=
    canonicalAgent.i2cGated_mainStep hb s
  cases i with
  | i2cMasterInit id =>
    exact canonicalAgent.mainStep (i2cInit_keepsCanonical _ id _ fun _ => by rfl) (fun p _ => runsWithin_noResume p) s
  | i2cSlaveInit id =>
    exact canonicalAgent.mainStep (i2cInit_keepsCanonical _ id _ fun _ => by rfl) (fun p _ => runsWithin_noResume p) s
  | i2cUnInit h => exact gated unInitBody_keepsCanonical
  | i2cSetBlockingMode h b => exact gated fun s => canonicalAgent.ifComplete (setBlockingBody_keepsCanonical b s)
  | i2cSetDmaMode h b => exact gated fun s => canonicalAgent.ifComplete (setDmaBody_keepsCanonical b s)
  | i2cSetSlaveAddress h v => exact gated fun s => canonicalAgent.ifComplete (setSlaveAddressBody_keepsCanonical v s)
  | i2cSetTenBitAddressing h b => exact gated fun s => canonicalAgent.ifComplete (retI2c_keepsCanonical _ _ (by rfl))
  | i2cSetClockStretch h b => exact gated fun s => retI2c_keepsCanonical _ _ (by rfl)
  | i2cMasterTransmit h sid daddr daw buf size rs =>
    exact execI2cMasterTransmit_keepsCanonical h sid daddr daw buf size rs s
  | i2cMasterReceive h sid daddr daw buf size rs =>
    exact execI2cMasterReceive_keepsCanonical h sid daddr daw buf size rs s
  | i2cSlaveTransmit h buf size => exact slaveCall_keepsCanonical _ h size (slaveTransmitIdle_keepsCanonical buf size) s
  | i2cSlaveReceive h buf size => exact slaveCall_keepsCanonical _ h size (slaveReceiveIdle_keepsCanonical buf size) s
  | i2cGetGeneralCall h => exact gated fun _ => runsWithin_ok (canonicalAgent.ret _ _ _ (.of_mem_eq (by rfl)))
  | i2cGetStatus h => exact gated fun _ => runsWithin_ok (canonicalAgent.ret _ _ _ (.of_mem_eq (by rfl)))
  | i2cRegisterCallback h cb => exact gated fun s => retI2c_keepsCanonical _ _ (by rfl)
  | mAddrAck => exact execMAddrAck_keepsCanonical s
  | mAddrNack => exact execMAddrNack_keepsCanonical s
  | mTxByteAck => exact execMTxByteAck_keepsCanonical s
  | mTxByteNack => exact execMTxByteNack_keepsCanonical s
  | mTxEnd => exact execMTxEnd_keepsCanonical s
  | mRxByte b => exact execMRxByte_keepsCanonical b s
  | mRxEnd => exact execMRxEnd_keepsCanonical s
  | mAlost => exact execMAlost_keepsCanonical s
  | sAddrMatch d => exact execSAddrMatch_keepsCanonical d s
  | sRxByte b => exact execSRxByte_keepsCanonical b s
  | sTxByte => exact execSTxByte_keepsCanonical s
  | sTxUnderflow => exact execSTxUnderflow_keepsCanonical s
  | sRepstart d => exact execSRepstart_keepsCanonical d s
  | sStop => exact execSStop_keepsCanonical s
  | sGcall b => exact execSGcall_keepsCanonical b s
  | i2cmIsr => exact canonicalAgent.handlerStep masterService_keepsCanonical s
  | i2csIsr => exact canonicalAgent.handlerStep slaveService_keepsCanonical s
  | dmaIsr c => exact execDmaIsr_keepsCanonical c s
  | dmaXfer c => exact execDmaXfer_keepsCanonical c s
  | _ => simp [rtcGroup, opcodeOf] at hi

/-- The RTC group does not touch data memory at all (10_state.md R89). -/
theorem exec_keepsCanonical (i : Instr) (s : State) : StepsWithin KeepsCanonical s (exec i s) := by
  cases hi : rtcGroup i with
  | true =>
    intro t h
    obtain ⟨hkeep, _⟩ := groupsAreSeparate i s t h
    obtain ⟨_, _, _, _, _, hmem, _⟩ := hkeep hi
    exact .of_mem_eq hmem
  | false => exact exec_i2c_keepsCanonical hi s

/-- A step takes a line from the schedule, or none, and is then a mark, an instruction or a reset; so it stays within
an agent relation that every instruction and both resets stay within. -/
theorem AgentRelation.machineStep {R : State → State → Prop} (hR : AgentRelation R)
    (hexec : ∀ i s, StepsWithin R s (exec i s)) (hcore : ∀ s, R s (coreReset s)) (hpor : ∀ s, R s (porReset s))
    (s : State) : StepsWithin R s (Machine.step s) := by
  intro u h
  obtain ⟨_, t, ht, hu⟩ := step_next h
  have hst : R s t := by
    rcases ht with rfl | ⟨l, rfl⟩
    · exact hR.refl _
    · exact hR.of_keepsDevices (.of_eq rfl)
  refine hR.trans hst ?_
  rcases hu with rfl | ⟨r, rfl⟩ | ⟨i, hi⟩ | rfl | rfl
  · exact hR.refl _
  · exact hR.of_keepsDevices (.of_eq rfl)
  · exact hexec i t u hi
  · exact hcore t
  · exact hpor t

/-- Settles O9: instructions write data memory only through `memWrite`, which keeps the canonical form, and a reset
keeps data memory (20_memory.md R120, 70_reset_and_hazards.md R580). -/
theorem stepKeepsMemoryCanonical : Obligations.StepKeepsMemoryCanonical := fun s t hs h =>
  canonicalAgent.machineStep exec_keepsCanonical (fun _ => .of_mem_eq rfl) (fun s => .of_mem_eq (drawRtc_state s).mem_eq)
    s t h hs

end Sys2Proof.Machine

/-! The decoder and the encoder against each other (30_encoding.md R140-R149). Each operand format has one rule for its
reader, which says when it answers an instruction and that the instruction's own word was read; the opcode map then only
says which rule an opcode takes (`decode_readsAs`). -/

namespace Sys2Proof

/-! ### Operand fields -/

theorem toNat_append_byte {n : Nat} (x : BitVec n) (b : Byte) : (x ++ b).toNat = x.toNat * 2 ^ 8 + b.toNat := by
  rw [BitVec.toNat_append, ← Nat.shiftLeft_add_eq_or_of_lt b.isLt, Nat.shiftLeft_eq]

/-- Byte `start / 8` of a field, the lowest first. -/
theorem toNat_byteAt {n : Nat} (x : BitVec n) (start : Nat) :
    (x.extractLsb' start 8).toNat = x.toNat / 2 ^ start % 2 ^ 8 := by
  rw [BitVec.extractLsb'_toNat, Nat.shiftRight_eq_div_pow]

theorem toNat_ofLe16 (b0 b1 : Byte) : (ofLe16 b0 b1).toNat = b1.toNat * 2 ^ 8 + b0.toNat :=
  toNat_append_byte b1 b0

theorem toNat_ofLe32 (b0 b1 b2 b3 : Byte) :
    (ofLe32 b0 b1 b2 b3).toNat = ((b3.toNat * 2 ^ 8 + b2.toNat) * 2 ^ 8 + b1.toNat) * 2 ^ 8 + b0.toNat := by
  rw [← toNat_append_byte b3 b2, ← toNat_append_byte _ b1, ← toNat_append_byte _ b0]
  rfl

@[simp] theorem ofLe16_toLe16 (v : U16) : ofLe16 (v.extractLsb' 0 8) (v.extractLsb' 8 8) = v :=
  BitVec.eq_of_toNat_eq (by simp only [toNat_ofLe16, toNat_byteAt]; omega)

@[simp] theorem ofLe32_toLe32 (v : U32) :
    ofLe32 (v.extractLsb' 0 8) (v.extractLsb' 8 8) (v.extractLsb' 16 8) (v.extractLsb' 24 8) = v :=
  BitVec.eq_of_toNat_eq (by simp only [toNat_ofLe32, toNat_byteAt]; omega)

@[simp] theorem toLe16_ofLe16 (b0 b1 : Byte) : toLe16 (ofLe16 b0 b1) = [b0, b1] := by
  simp only [toLe16, List.cons.injEq, and_true]
  constructor <;> exact BitVec.eq_of_toNat_eq (by rw [toNat_byteAt, toNat_ofLe16]; omega)

@[simp] theorem toLe32_ofLe32 (b0 b1 b2 b3 : Byte) : toLe32 (ofLe32 b0 b1 b2 b3) = [b0, b1, b2, b3] := by
  simp only [toLe32, List.cons.injEq, and_true]
  refine ⟨?_, ?_, ?_, ?_⟩ <;> exact BitVec.eq_of_toNat_eq (by rw [toNat_byteAt, toNat_ofLe32]; omega)

/-! ### Limited bytes -/

/-- An operand byte of limited values: `toByte` gives the byte of each value of its type, `ofByte` reads exactly these
bytes, and they are the bytes below `bound` (30_encoding.md R142, R149). -/
structure ByteCode {α : Type} (ofByte : Byte → Option α) (toByte : α → Byte) (bound : Nat) : Prop where
  read_written : ∀ v, ofByte (toByte v) = some v
  written_of_read : ∀ {b v}, ofByte b = some v → b = toByte v
  read_iff : ∀ b, (ofByte b).isSome ↔ b.toNat < bound

theorem boolCode : ByteCode boolOfByte byteOfBool 2 where
  read_written v := by cases v <;> rfl
  written_of_read {b v} h := by
    unfold boolOfByte at h
    split_ifs at h <;> cases h <;> exact BitVec.eq_of_toNat_eq ‹_›
  read_iff b := by unfold boolOfByte; split_ifs <;> grind

theorem dirCode : ByteCode dirOfByte byteOfDir 2 where
  read_written v := by cases v <;> rfl
  written_of_read {b v} h := by
    unfold dirOfByte at h
    split_ifs at h <;> cases h <;> exact BitVec.eq_of_toNat_eq ‹_›
  read_iff b := by unfold dirOfByte; split_ifs <;> grind

theorem groupCode : ByteCode groupOfByte (fun g => BitVec.ofNat 8 (groupNumber g)) 7 where
  read_written v := by cases v <;> rfl
  written_of_read {b v} h := by
    unfold groupOfByte at h
    split at h <;> cases h <;> exact BitVec.eq_of_toNat_eq ‹_›
  read_iff b := by unfold groupOfByte; split <;> grind

theorem chanCode : ByteCode chanOfByte (fun c => BitVec.ofNat 8 (chanNumber c)) 3 where
  read_written v := by cases v <;> rfl
  written_of_read {b v} h := by
    unfold chanOfByte at h
    split at h <;> cases h <;> exact BitVec.eq_of_toNat_eq ‹_›
  read_iff b := by unfold chanOfByte; split <;> grind

/-! ### What a reader of operands may answer -/

/-- The verdict `v` on the word `w` is right: an instruction only for a legal word, which then begins with the
instruction's own word, and an error only for an illegal one (30_encoding.md R145). -/
inductive ReadsAs (w : List Byte) : Verdict → Prop
  | legal {i : Instr} : encode i <+: w → wordLegal w = true → ReadsAs w (.legal i)
  | illegal {e : DecodeError} : wordLegal w = false → ReadsAs w (.illegal e)

section Formats

variable {op : Byte} {r : List Byte} {fmt : Format} {e : DecodeError}

theorem wordLegal_cons (hfmt : formatOf op.toNat = some fmt) :
    wordLegal (op :: r) = true ↔ formatLength fmt ≤ r.length + 1 ∧
      ∀ pos bound, limitedByte fmt = some (pos, bound) → ((op :: r).getD pos 0).toNat < bound := by
  cases hlim : limitedByte fmt with
  | none => simp [wordLegal, hfmt, hlim]
  | some p => simp [wordLegal, hfmt, hlim, Prod.ext_iff]

/-- A word that ends before its format's last byte is illegal (log 10). -/
theorem ReadsAs.truncated (hfmt : formatOf op.toNat = some fmt) (hshort : r.length + 1 < formatLength fmt) :
    ReadsAs (op :: r) (.illegal e) :=
  .illegal (Bool.eq_false_iff.2 fun h => by have := (wordLegal_cons hfmt).1 h; omega)

/-- In a format without a limited byte the length alone decides. -/
theorem ReadsAs.complete {i : Instr} (hfmt : formatOf op.toNat = some fmt) (hlim : limitedByte fmt = none)
    (hlen : formatLength fmt ≤ r.length + 1) (hpre : encode i <+: op :: r) : ReadsAs (op :: r) (.legal i) :=
  .legal hpre ((wordLegal_cons hfmt).2 ⟨hlen, by simp [hlim]⟩)

/-- The verdict when all bytes of a format are there and its limited byte `b` is left to be read. -/
def limitedVerdict {α : Type} (ofByte : Byte → Option α) (e : DecodeError) (f : α → Instr) (b : Byte) : Verdict :=
  match ofByte b with
  | some v => .legal (f v)
  | none => .illegal e

theorem ByteCode.limitedVerdict_written {α : Type} {ofByte : Byte → Option α} {toByte : α → Byte} {bound : Nat}
    (hc : ByteCode ofByte toByte bound) (f : α → Instr) (v : α) :
    limitedVerdict ofByte e f (toByte v) = .legal (f v) := by
  rw [limitedVerdict, hc.read_written]

/-- In a format with a limited byte, the byte decides once the length is enough. -/
theorem ByteCode.readsAs {α : Type} {ofByte : Byte → Option α} {toByte : α → Byte} {bound pos : Nat} {b : Byte}
    {f : α → Instr} (hc : ByteCode ofByte toByte bound) (hfmt : formatOf op.toNat = some fmt)
    (hlim : limitedByte fmt = some (pos, bound)) (hlen : formatLength fmt ≤ r.length + 1)
    (hb : (op :: r).getD pos 0 = b) (hpre : ∀ v, b = toByte v → encode (f v) <+: op :: r) :
    ReadsAs (op :: r) (limitedVerdict ofByte e f b) := by
  have hlegal : wordLegal (op :: r) = true ↔ (ofByte b).isSome := by
    rw [wordLegal_cons hfmt, hc.read_iff, hlim, ← hb]
    simp [hlen, Prod.ext_iff]
  cases hread : ofByte b with
  | some v =>
    simp only [limitedVerdict, hread]
    exact .legal (hpre v (hc.written_of_read hread)) (hlegal.2 (by simp [hread]))
  | none =>
    simp only [limitedVerdict, hread]
    exact .illegal (Bool.eq_false_iff.2 fun h => by simp [hread] at hlegal; simp [hlegal] at h)

end Formats

/-! ### The readers that end in a limited byte, once all their bytes are there -/

theorem decodeByteBool_cons (f : Byte → Bool → Instr) (a b : Byte) (rest : List Byte) :
    decodeByteBool f (a :: b :: rest) = limitedVerdict boolOfByte .badBool (f a) b := by
  cases h : boolOfByte b <;> simp [decodeByteBool, limitedVerdict, h]

theorem decodeMaskBool_cons (f : Byte → U16 → Bool → Instr) (a v0 v1 b : Byte) (rest : List Byte) :
    decodeMaskBool f (a :: v0 :: v1 :: b :: rest) = limitedVerdict boolOfByte .badBool (f a (ofLe16 v0 v1)) b := by
  cases h : boolOfByte b <;> simp [decodeMaskBool, limitedVerdict, h]

theorem decodeMasterTransfer_cons (f : Byte → U16 → U32 → Byte → Addr → U16 → Bool → Instr)
    (a s0 s1 d0 d1 d2 d3 w p0 p1 p2 p3 n0 n1 b : Byte) (rest : List Byte) :
    decodeMasterTransfer f
        (a :: s0 :: s1 :: d0 :: d1 :: d2 :: d3 :: w :: p0 :: p1 :: p2 :: p3 :: n0 :: n1 :: b :: rest) =
      limitedVerdict boolOfByte .badBool
        (f a (ofLe16 s0 s1) (ofLe32 d0 d1 d2 d3) w (ofLe32 p0 p1 p2 p3) (ofLe16 n0 n1)) b := by
  cases h : boolOfByte b <;> simp [decodeMasterTransfer, limitedVerdict, h]

theorem decodeGroup_cons (f : Group → Instr) (b : Byte) (rest : List Byte) :
    decodeGroup f (b :: rest) = limitedVerdict groupOfByte .badGroup f b := by
  cases h : groupOfByte b <;> simp [decodeGroup, limitedVerdict, h]

theorem decodeDir_cons (f : Dir → Instr) (b : Byte) (rest : List Byte) :
    decodeDir f (b :: rest) = limitedVerdict dirOfByte .badDirection f b := by
  cases h : dirOfByte b <;> simp [decodeDir, limitedVerdict, h]

theorem decodeChan_cons (f : Chan → Instr) (b : Byte) (rest : List Byte) :
    decodeChan f (b :: rest) = limitedVerdict chanOfByte .badChannel f b := by
  cases h : chanOfByte b <;> simp [decodeChan, limitedVerdict, h]

/-! ### One rule for each format's reader (30_encoding.md R141) -/

section Readers

variable {op : Byte}

/-- FID, FH and FB: one byte of any value. -/
theorem decodeByte_readsAs {fmt : Format} {f : Byte → Instr} (hfmt : formatOf op.toNat = some fmt)
    (hlen : formatLength fmt = 2) (hlim : limitedByte fmt = none) (hf : ∀ a, encode (f a) = [op, a]) (r : List Byte) :
    ReadsAs (op :: r) (decodeByte f r) := by
  rcases r with _ | ⟨a, rest⟩
  · exact .truncated hfmt (by simp [hlen])
  · exact .complete hfmt hlim (by simp [hlen]) ⟨rest, by simp [hf]⟩

theorem decodeByteU16_readsAs {f : Byte → U16 → Instr} (hfmt : formatOf op.toNat = some .fhv16)
    (hf : ∀ a v, encode (f a v) = op :: a :: toLe16 v) (r : List Byte) :
    ReadsAs (op :: r) (decodeByteU16 f r) := by
  rcases r with _ | ⟨a, _ | ⟨v0, _ | ⟨v1, rest⟩⟩⟩
  any_goals exact .truncated hfmt (by simp [formatLength])
  exact .complete hfmt rfl (by simp [formatLength]) ⟨rest, by simp [hf]⟩

theorem decodeByteU32_readsAs {f : Byte → U32 → Instr} (hfmt : formatOf op.toNat = some .fhv32)
    (hf : ∀ a v, encode (f a v) = op :: a :: toLe32 v) (r : List Byte) :
    ReadsAs (op :: r) (decodeByteU32 f r) := by
  rcases r with _ | ⟨a, _ | ⟨v0, _ | ⟨v1, _ | ⟨v2, _ | ⟨v3, rest⟩⟩⟩⟩⟩
  any_goals exact .truncated hfmt (by simp [formatLength])
  exact .complete hfmt rfl (by simp [formatLength]) ⟨rest, by simp [hf]⟩

theorem decodeCallbackWatch_readsAs {f : Byte → Byte → U16 → Instr} (hfmt : formatOf op.toNat = some .fhcw)
    (hf : ∀ a c v, encode (f a c v) = op :: a :: c :: toLe16 v) (r : List Byte) :
    ReadsAs (op :: r) (decodeCallbackWatch f r) := by
  rcases r with _ | ⟨a, _ | ⟨c, _ | ⟨w0, _ | ⟨w1, rest⟩⟩⟩⟩
  any_goals exact .truncated hfmt (by simp [formatLength])
  exact .complete hfmt rfl (by simp [formatLength]) ⟨rest, by simp [hf]⟩

theorem decodeByteByte_readsAs {f : Byte → Byte → Instr} (hfmt : formatOf op.toNat = some .fhc)
    (hf : ∀ a c, encode (f a c) = [op, a, c]) (r : List Byte) : ReadsAs (op :: r) (decodeByteByte f r) := by
  rcases r with _ | ⟨a, _ | ⟨c, rest⟩⟩
  any_goals exact .truncated hfmt (by simp [formatLength])
  exact .complete hfmt rfl (by simp [formatLength]) ⟨rest, by simp [hf]⟩

theorem decodeSlaveTransfer_readsAs {f : Byte → Addr → U16 → Instr} (hfmt : formatOf op.toNat = some .fsx)
    (hf : ∀ a p n, encode (f a p n) = op :: encodeSlaveTransfer a p n) (r : List Byte) :
    ReadsAs (op :: r) (decodeSlaveTransfer f r) := by
  rcases r with _ | ⟨a, _ | ⟨p0, _ | ⟨p1, _ | ⟨p2, _ | ⟨p3, _ | ⟨n0, _ | ⟨n1, rest⟩⟩⟩⟩⟩⟩⟩
  any_goals exact .truncated hfmt (by simp [formatLength])
  exact .complete hfmt rfl (by simp [formatLength]) ⟨rest, by simp [hf, encodeSlaveTransfer]⟩

theorem decodeByteBool_readsAs {f : Byte → Bool → Instr} (hfmt : formatOf op.toNat = some .fhb)
    (hf : ∀ a v, encode (f a v) = [op, a, byteOfBool v]) (r : List Byte) :
    ReadsAs (op :: r) (decodeByteBool f r) := by
  rcases r with _ | ⟨a, _ | ⟨b, rest⟩⟩
  any_goals exact .truncated hfmt (by simp [formatLength])
  rw [decodeByteBool_cons]
  exact boolCode.readsAs hfmt rfl (by simp [formatLength]) rfl fun v hv => ⟨rest, by simp [hf, hv]⟩

theorem decodeMaskBool_readsAs {f : Byte → U16 → Bool → Instr} (hfmt : formatOf op.toNat = some .fhmb)
    (hf : ∀ a m v, encode (f a m v) = op :: a :: (toLe16 m ++ [byteOfBool v])) (r : List Byte) :
    ReadsAs (op :: r) (decodeMaskBool f r) := by
  rcases r with _ | ⟨a, _ | ⟨v0, _ | ⟨v1, _ | ⟨b, rest⟩⟩⟩⟩
  any_goals exact .truncated hfmt (by simp [formatLength])
  rw [decodeMaskBool_cons]
  exact boolCode.readsAs hfmt rfl (by simp [formatLength]) rfl fun v hv => ⟨rest, by simp [hf, hv]⟩

theorem decodeMasterTransfer_readsAs {f : Byte → U16 → U32 → Byte → Addr → U16 → Bool → Instr}
    (hfmt : formatOf op.toNat = some .fmx)
    (hf : ∀ a s d w p n v, encode (f a s d w p n v) = op :: encodeMasterTransfer a s d w p n v) (r : List Byte) :
    ReadsAs (op :: r) (decodeMasterTransfer f r) := by
  rcases r with _ | ⟨a, _ | ⟨s0, _ | ⟨s1, _ | ⟨d0, _ | ⟨d1, _ | ⟨d2, _ | ⟨d3, _ | ⟨w, _ | ⟨p0, _ | ⟨p1, _ | ⟨p2,
    _ | ⟨p3, _ | ⟨n0, _ | ⟨n1, _ | ⟨b, rest⟩⟩⟩⟩⟩⟩⟩⟩⟩⟩⟩⟩⟩⟩⟩
  any_goals exact .truncated hfmt (by simp [formatLength])
  rw [decodeMasterTransfer_cons]
  exact boolCode.readsAs hfmt rfl (by simp [formatLength]) rfl fun v hv =>
    ⟨rest, by simp [hf, encodeMasterTransfer, hv]⟩

theorem decodeGroup_readsAs {f : Group → Instr} (hfmt : formatOf op.toNat = some .fg)
    (hf : ∀ g, encode (f g) = [op, BitVec.ofNat 8 (groupNumber g)]) (r : List Byte) :
    ReadsAs (op :: r) (decodeGroup f r) := by
  rcases r with _ | ⟨b, rest⟩
  · exact .truncated hfmt (by simp [formatLength])
  · rw [decodeGroup_cons]
    exact groupCode.readsAs hfmt rfl (by simp [formatLength]) rfl fun v hv => ⟨rest, by simp [hf, hv]⟩

theorem decodeDir_readsAs {f : Dir → Instr} (hfmt : formatOf op.toNat = some .fd)
    (hf : ∀ d, encode (f d) = [op, byteOfDir d]) (r : List Byte) : ReadsAs (op :: r) (decodeDir f r) := by
  rcases r with _ | ⟨b, rest⟩
  · exact .truncated hfmt (by simp [formatLength])
  · rw [decodeDir_cons]
    exact dirCode.readsAs hfmt rfl (by simp [formatLength]) rfl fun v hv => ⟨rest, by simp [hf, hv]⟩

theorem decodeChan_readsAs {f : Chan → Instr} (hfmt : formatOf op.toNat = some .fc)
    (hf : ∀ c, encode (f c) = [op, BitVec.ofNat 8 (chanNumber c)]) (r : List Byte) :
    ReadsAs (op :: r) (decodeChan f r) := by
  rcases r with _ | ⟨b, rest⟩
  · exact .truncated hfmt (by simp [formatLength])
  · rw [decodeChan_cons]
    exact chanCode.readsAs hfmt rfl (by simp [formatLength]) rfl fun v hv => ⟨rest, by simp [hf, hv]⟩

/-- F0: the opcode is the word. -/
theorem legal_readsAs {i : Instr} (hfmt : formatOf op.toNat = some .f0) (hi : encode i = [op]) (r : List Byte) :
    ReadsAs (op :: r) (.legal i) :=
  .complete hfmt rfl (by simp [formatLength]) ⟨r, by simp [hi]⟩

end Readers

/-- Each opcode's operands are read by the rule of its format, and the opcode map and the format table leave the same
opcodes reserved (30_encoding.md R149). -/
theorem decodeOperands_readsAs (n : Nat) (hn : n < 256) (r : List Byte) :
    ReadsAs (BitVec.ofNat 8 n :: r) (decodeOperands n r) := by
  unfold decodeOperands
  split
  case h_62 =>
    have hreserved : formatOf n = none := by
      simp only [formatOf, List.mem_cons, List.not_mem_nil, or_false]
      grind
    exact .illegal (by simp [wordLegal, Nat.mod_eq_of_lt hn, hreserved])
  -- every other arm is a reader applied to its constructor, so its format's rule applies; one line for each reader
  any_goals exact legal_readsAs rfl rfl r
  any_goals exact decodeByte_readsAs rfl rfl rfl (fun _ => rfl) r
  any_goals exact decodeByteBool_readsAs rfl (fun _ _ => rfl) r
  any_goals exact decodeByteU16_readsAs rfl (fun _ _ => rfl) r
  any_goals exact decodeByteU32_readsAs rfl (fun _ _ => rfl) r
  any_goals exact decodeMaskBool_readsAs rfl (fun _ _ _ => rfl) r
  any_goals exact decodeGroup_readsAs rfl (fun _ => rfl) r
  any_goals exact decodeDir_readsAs rfl (fun _ => rfl) r
  any_goals exact decodeChan_readsAs rfl (fun _ => rfl) r
  any_goals exact decodeSlaveTransfer_readsAs rfl (fun _ _ _ => rfl) r
  any_goals exact decodeMasterTransfer_readsAs rfl (fun _ _ _ _ _ _ _ => rfl) r
  · exact decodeCallbackWatch_readsAs rfl (fun _ _ _ => rfl) r
  · exact decodeByteByte_readsAs rfl (fun _ _ => rfl) r

/-- The decoder's verdict is right on every word. -/
theorem decode_readsAs : ∀ w : List Byte, ReadsAs w (decode w)
  | [] => .illegal rfl
  | op :: r => by simpa [decode] using decodeOperands_readsAs op.toNat op.isLt r

/-! ### Decoding what was encoded -/

section RoundTrip

variable (h : Byte) (rest : List Byte)

theorem decodeByteBool_encoded (f : Byte → Bool → Instr) (b : Bool) :
    decodeByteBool f (h :: byteOfBool b :: rest) = .legal (f h b) := by
  rw [decodeByteBool_cons, boolCode.limitedVerdict_written]

theorem decodeMaskBool_encoded (f : Byte → U16 → Bool → Instr) (mask : U16) (b : Bool) :
    decodeMaskBool f (h :: (toLe16 mask ++ [byteOfBool b]) ++ rest) = .legal (f h mask b) := by
  simp [toLe16, decodeMaskBool_cons, boolCode.limitedVerdict_written]

theorem decodeByteU16_encoded (f : Byte → U16 → Instr) (v : U16) :
    decodeByteU16 f (h :: toLe16 v ++ rest) = .legal (f h v) := by
  simp [toLe16, decodeByteU16]

theorem decodeByteU32_encoded (f : Byte → U32 → Instr) (v : U32) :
    decodeByteU32 f (h :: toLe32 v ++ rest) = .legal (f h v) := by
  simp [toLe32, decodeByteU32]

theorem decodeCallbackWatch_encoded (f : Byte → Byte → U16 → Instr) (cb : Byte) (watch : U16) :
    decodeCallbackWatch f (h :: cb :: toLe16 watch ++ rest) = .legal (f h cb watch) := by
  simp [toLe16, decodeCallbackWatch]

theorem decodeMasterTransfer_encoded (f : Byte → U16 → U32 → Byte → Addr → U16 → Bool → Instr) (sid : U16)
    (daddr : U32) (daw : Byte) (buf : Addr) (size : U16) (rs : Bool) :
    decodeMasterTransfer f (encodeMasterTransfer h sid daddr daw buf size rs ++ rest) =
      .legal (f h sid daddr daw buf size rs) := by
  simp [encodeMasterTransfer, toLe16, toLe32, decodeMasterTransfer_cons, boolCode.limitedVerdict_written]

theorem decodeSlaveTransfer_encoded (f : Byte → Addr → U16 → Instr) (buf : Addr) (size : U16) :
    decodeSlaveTransfer f (encodeSlaveTransfer h buf size ++ rest) = .legal (f h buf size) := by
  simp [encodeSlaveTransfer, toLe16, toLe32, decodeSlaveTransfer]

theorem decodeGroup_encoded (f : Group → Instr) (g : Group) :
    decodeGroup f (BitVec.ofNat 8 (groupNumber g) :: rest) = .legal (f g) := by
  rw [decodeGroup_cons, groupCode.limitedVerdict_written]

theorem decodeDir_encoded (f : Dir → Instr) (d : Dir) : decodeDir f (byteOfDir d :: rest) = .legal (f d) := by
  rw [decodeDir_cons, dirCode.limitedVerdict_written]

theorem decodeChan_encoded (f : Chan → Instr) (c : Chan) :
    decodeChan f (BitVec.ofNat 8 (chanNumber c) :: rest) = .legal (f c) := by
  rw [decodeChan_cons, chanCode.limitedVerdict_written]

end RoundTrip

/-- Settles O1: an opcode selects its format's reader, and each reader gives back the operands that were laid out, whatever
follows them. The formats of plain bytes have nothing to convert. -/
theorem encodedWordDecodes : Obligations.EncodedWordDecodes := by
  intro i rest
  cases i with
  | rtcEnableDevice h b | rtcEnableAlarm h b | rtcEnableTrim h b | rtcEnableLcdUpdate h b | rtcEnableSafeWrites h b
  | i2cSetBlockingMode h b | i2cSetDmaMode h b | i2cSetTenBitAddressing h b | i2cSetClockStretch h b =>
    exact decodeByteBool_encoded h rest _ b
  | rtcEnableInterrupts h mask b => exact decodeMaskBool_encoded h rest _ mask b
  | rtcSetTrim h v | rtcClearInterruptStatus h v | i2cSetSlaveAddress h v => exact decodeByteU16_encoded h rest _ v
  | rtcSetCount h v | rtcSetAlarm h v => exact decodeByteU32_encoded h rest _ v
  | rtcRegisterCallback h cb watch => exact decodeCallbackWatch_encoded h rest _ cb watch
  | i2cMasterTransmit h sid daddr daw buf size rs | i2cMasterReceive h sid daddr daw buf size rs =>
    exact decodeMasterTransfer_encoded h rest _ sid daddr daw buf size rs
  | i2cSlaveTransmit h buf size | i2cSlaveReceive h buf size => exact decodeSlaveTransfer_encoded h rest _ buf size
  | rtcAccept g | rtcCommit g => exact decodeGroup_encoded rest _ g
  | sAddrMatch d | sRepstart d => exact decodeDir_encoded rest _ d
  | dmaIsr c | dmaXfer c => exact decodeChan_encoded rest _ c
  | _ => rfl

/-- Settles O2: the reader of every format answers an instruction only after reading that instruction's own bytes. -/
theorem decodedWordIsEncoding : Obligations.DecodedWordIsEncoding := by
  intro w i hdecode
  have hread := decode_readsAs w
  rw [hdecode] at hread
  cases hread with
  | legal hpre _ => exact hpre

/-- Settles O3: the reader of every format answers an instruction exactly when the format's bytes are all there and its
limited byte holds a value of its type. -/
theorem legalWordsDecode : Obligations.LegalWordsDecode := by
  intro w
  have hread := decode_readsAs w
  generalize decode w = v at hread ⊢
  cases hread with
  | legal _ hlegal => simp [hlegal]
  | illegal hbad => simp [hbad]

/-- Settles O4: the eight words are those of their instructions, byte for byte. -/
theorem specWordsDecode : Obligations.SpecWordsDecode :=
  ⟨encodedWordDecodes (.rtcSetAlarm 0#8 0x00000105#32) [],
    encodedWordDecodes (.rtcEnableInterrupts 0#8 0x0001#16 true) [],
    encodedWordDecodes (.i2cMasterTransmit 0#8 0x0050#16 0x10#32 1#8 0x20000000#32 1#16 true) [],
    encodedWordDecodes (.rtcCommit .trim) [], encodedWordDecodes (.mRxByte 0x11#8) [],
    encodedWordDecodes (.sRepstart .R) [], encodedWordDecodes (.dmaIsr .srx) [], encodedWordDecodes (.dmaXfer .m) []⟩

end Sys2Proof

/-! The step that reaches a program's word, and the steps of a marked state (30_encoding.md R145, 60_exceptions.md
R544, R545, 10_state.md R88). -/

namespace Sys2Proof.Machine

open Sys2Proof.Cert

/-- R544, R545: an eager main context that is ready runs the word at `main.pc`. -/
theorem step_eq_runOperation {s : State} {w : List Byte} (hunmarked : Unmarked s) (heager : s.env.eager = true)
    (hhnd : s.hnd = none) (hw : s.main.prog[s.main.pc]? = some w) (hk : s.main.k.ready s = true) :
    step s = runOperation w s := by
  obtain ⟨hfault, hrefused⟩ := hunmarked
  obtain ⟨hpc, _⟩ := List.getElem?_eq_some_iff.1 hw
  have hready : mainReady s = true := by simp [mainReady, hhnd, hpc, hk]
  have hword : mainWord s = w := by simp [mainWord, hw]
  simp [step, stopOrRun, hfault, hrefused, runNext, heager, hready, hword]

theorem runOperation_of_not_wordLegal {w : List Byte} (hbad : wordLegal w = false) (s : State) :
    runOperation w s = .next (s.refuse .illegalOperation) := by
  unfold runOperation
  cases hverdict : decode w with
  | legal i => simp [(legalWordsDecode w).1 ⟨i, hverdict⟩] at hbad
  | illegal e => rfl

theorem runOperation_of_event {w : List Byte} {i : Instr} (hdecode : decode w = .legal i)
    (hevent : isOperation i = false) (s : State) : runOperation w s = .next (s.refuse .eventInProgram) := by
  simp [runOperation, hdecode, hevent]

/-- R13, R88: a fault stops the machine. -/
theorem step_of_fault {s : State} {f : Fault} (hf : s.fault = some f) : step s = .fault f := by
  simp [step, stopOrRun, hf]

/-- R13, R88: so does a refusal, where there is no fault. -/
theorem step_of_refused {s : State} {c : Refusal} (hf : s.fault = none) (hr : s.refused = some c) :
    step s = .refused c := by
  simp [step, stopOrRun, hf, hr]

/-- Settles O6: a ready main context runs the word at `main.pc`, whose decoding leads to one of the two refusals, and the
marks are looked at before anything runs. -/
theorem refusalsMarkAndStop : Obligations.RefusalsMarkAndStop := by
  refine ⟨fun s w hunmarked heager hhnd hw hk => ?_, fun s => ⟨fun _ => step_of_fault, fun _ => step_of_refused⟩⟩
  rw [step_eq_runOperation hunmarked heager hhnd hw hk]
  exact ⟨fun hbad => runOperation_of_not_wordLegal hbad s,
    fun i hdecode hevent => runOperation_of_event hdecode hevent s⟩

end Sys2Proof.Machine

/-! How an operation of the main context runs from its start or from its hold point to the state it leaves: one rule for
each procedure that the RTC operations share (60_exceptions.md R540, 40_rtc_ops.md R230 to R232). -/

namespace Sys2Proof.Machine

open Sys2Proof.Cert

/-! ### A main-context step, from what its pseudocode leaves -/

/-- The pseudocode `f`, run in the critical region that a main segment at `s` enters, leaves `t` (60_exceptions.md R540,
R542). Both states are named as they are outside the region. -/
structure RunsTo (f : State → Run) (s t : State) : Prop where
  run : f (enterCritical s) = .ok (enterCritical t)
  crit : t.main.crit = s.main.crit

theorem leaveCritical_enterCritical {t : State} (hcrit : t.main.crit = false) :
    leaveCritical (enterCritical t) = t := by
  change { t with main := { t.main with crit := false } } = t
  rw [← hcrit]

@[simp] theorem Await.holds_enterCritical (c : Await) (s : State) : c.holds (enterCritical s) = c.holds s := by
  cases c <;> rfl

section
variable {start : State → Run} {resume : Point → State → Run} {s t : State} {c : Await} {p : Point}

theorem RunsTo.mainStep_start (h : RunsTo start s t) (hs : AtStart s) : mainStep start resume s = .next t := by
  obtain ⟨hhnd, hk, hcrit⟩ := hs
  simp [mainStep, hhnd, hk, h.run, finishMain, leaveCritical_enterCritical (h.crit.trans hcrit)]

theorem RunsTo.mainStep_resume (h : RunsTo (resume p) s t) (hs : Resumes c p s) :
    mainStep start resume s = .next t := by
  obtain ⟨hhnd, hk, hcrit, hc⟩ := hs
  simp [mainStep, hhnd, hk, hc, h.run, finishMain, leaveCritical_enterCritical (h.crit.trans hcrit)]

/-- A wait that ends at once and one that has ended lead to the same state. -/
theorem mainStep_reaches (hs : Reaches c p s) (hstart : RunsTo start s t) (hresume : RunsTo (resume p) s t) :
    mainStep start resume s = .next t := by
  obtain ⟨hhnd, hcrit, hk | hk, hc⟩ := hs
  · exact hstart.mainStep_start ⟨hhnd, hk, hcrit⟩
  · exact hresume.mainStep_resume ⟨hhnd, hk, hcrit, hc⟩

end

section
variable {f g : State → Run} {s t : State} {c : State → Prop} {_ : DecidablePred c}

theorem RunsTo.ite_pos (hf : RunsTo f s t) (hc : c (enterCritical s)) :
    RunsTo (fun u => if c u then f u else g u) s t :=
  ⟨(if_pos hc).trans hf.run, hf.crit⟩

theorem RunsTo.ite_neg (hg : RunsTo g s t) (hc : ¬c (enterCritical s)) :
    RunsTo (fun u => if c u then f u else g u) s t :=
  ⟨(if_neg hc).trans hg.run, hg.crit⟩

end

/-- An operation with no outputs returns. -/
theorem runsTo_retRtc (op : Byte) (c : RtcCode) (s : State) : RunsTo (retRtc op c) s (ret op (.rtc c) {} s) :=
  ⟨rfl, rfl⟩

/-! ### The gate (40_rtc_ops.md R231) -/

section
variable {op h : Byte} {fsExempt : Bool} {rest : State → Run} {s t : State}

theorem runsTo_gate_badHandle (hh : h ≠ 0#8) :
    RunsTo (gate op h fsExempt rest) s (ret op (.rtc .badHandle) {} s) :=
  ⟨if_pos hh, rfl⟩

theorem runsTo_gate_notInitialized (hh : h = 0#8) (hinit : s.rtcd.initialized = false) :
    RunsTo (gate op h fsExempt rest) s (ret op (.rtc .notInitialized) {} s) := by
  refine ⟨?_, rfl⟩
  simp only [gate, hh, rtcHandle, enterCritical_rtcd, hinit]
  rfl

theorem runsTo_gate_clockFailsafe (hh : h = 0#8) (hinit : s.rtcd.initialized = true)
    (hfs : s.rtc.status.getLsbD 2 = true) : RunsTo (gate op h false rest) s (ret op (.rtc .clockFailsafe) {} s) := by
  refine ⟨?_, rfl⟩
  simp only [gate, hh, rtcHandle, failsafe, enterCritical_rtcd, enterCritical_rtc, hinit, hfs]
  rfl

theorem RunsTo.gate_exempt (hrest : RunsTo rest s t) (hinit : s.rtcd.initialized = true) :
    RunsTo (gate op 0#8 true rest) s t := by
  refine ⟨?_, hrest.crit⟩
  simpa [gate, rtcHandle, hinit] using hrest.run

theorem RunsTo.gate_open (hrest : RunsTo rest s t) (hopen : RtcOpen s) : RunsTo (gate op 0#8 false rest) s t := by
  obtain ⟨hinit, hfs⟩ := hopen
  refine ⟨?_, hrest.crit⟩
  simp only [gate, rtcHandle, failsafe, enterCritical_rtcd, enterCritical_rtc, hinit, hfs]
  exact hrest.run

end

/-! ### Waits (00_scope.md R13, 40_rtc_ops.md R230) -/

/-- The safe-write stall awaits free posting buffers (10_state.md R40). -/
theorem noPend_holds_iff {gs : List Group} {s : State} :
    (Await.noPend gs).holds s = true ↔ ∀ g ∈ gs, s.rtc.posted.get g = none := by
  simp [Await.holds, noPend, pend]

theorem noPend_unmet_iff {gs : List Group} {s : State} :
    (Await.noPend gs).holds s = false ↔ ∃ g ∈ gs, (s.rtc.posted.get g).isSome = true := by
  simp [Await.holds, noPend, pend, Option.isSome_iff_ne_none]

theorem noSync_unmet_iff {gs : List Group} {s : State} :
    (Await.noSync gs).holds s = false ↔ ∃ g ∈ gs, sync s g = true := by
  simp [Await.holds, noSync]

theorem noSync_holds_iff {gs : List Group} {s : State} :
    (Await.noSync gs).holds s = true ↔ ∀ g ∈ gs, sync s g = false := by
  simp [Await.holds, noSync]

theorem posted_none_of_sync_false {s : State} {g : Group} (h : sync s g = false) : s.rtc.posted.get g = none := by
  simp only [sync, Bool.or_eq_false_iff, Option.isSome_eq_false_iff, Option.isNone_iff_eq_none] at h
  obtain ⟨hposted, _⟩ := h
  exact hposted

section
variable {rest : State → Run} {c : Await} {p : Point} {gs : List Group} {s t : State}

theorem RunsTo.awaitThen_met (hrest : RunsTo rest s t) (hc : c.holds s = true) : RunsTo (awaitThen c p rest) s t :=
  ⟨by simpa [awaitThen, hc] using hrest.run, hrest.crit⟩

theorem runsTo_awaitThen_unmet (hc : c.holds s = false) : RunsTo (awaitThen c p rest) s (s.holdAt c p) :=
  ⟨by simp only [awaitThen, Await.holds_enterCritical, hc]; rfl, rfl⟩

theorem runsTo_swStall_hold (hsafe : s.rtcd.safeWrite = true)
    (hpend : ∃ g ∈ gs, (s.rtc.posted.get g).isSome = true) :
    RunsTo (swStall gs p rest) s (s.holdAt (.noPend gs) p) := by
  have hhold : RunsTo (awaitThen (.noPend gs) p rest) s (s.holdAt (.noPend gs) p) :=
    runsTo_awaitThen_unmet (noPend_unmet_iff.2 hpend)
  exact ⟨by simpa [Machine.swStall, hsafe] using hhold.run, rfl⟩

/-- The stall of a single group. -/
theorem runsTo_swStall_hold_single {g : Group} (hsafe : s.rtcd.safeWrite = true) (hpend : s.rtc.posted.get g ≠ none) :
    RunsTo (swStall [g] p rest) s (s.holdAt (.noPend [g]) p) :=
  runsTo_swStall_hold hsafe ⟨g, List.mem_singleton_self g, Option.isSome_iff_ne_none.2 hpend⟩

theorem RunsTo.swStall_off (hrest : RunsTo rest s t) (hoff : s.rtcd.safeWrite = false) :
    RunsTo (swStall gs p rest) s t :=
  ⟨by simpa [Machine.swStall, hoff] using hrest.run, hrest.crit⟩

/-- With the posting buffers free the stall ends at once, in safe-write mode or not. -/
theorem RunsTo.swStall_free (hrest : RunsTo rest s t) (hfree : ∀ g ∈ gs, s.rtc.posted.get g = none) :
    RunsTo (swStall gs p rest) s t := by
  cases hsafe : s.rtcd.safeWrite with
  | false => exact hrest.swStall_off hsafe
  | true =>
    have hmet : RunsTo (awaitThen (.noPend gs) p rest) s t := hrest.awaitThen_met (noPend_holds_iff.2 hfree)
    exact ⟨by simpa [Machine.swStall, hsafe] using hmet.run, hmet.crit⟩

theorem RunsTo.swStall_free_single {g : Group} (hrest : RunsTo rest s t) (hfree : s.rtc.posted.get g = none) :
    RunsTo (Machine.swStall [g] p rest) s t :=
  hrest.swStall_free (List.forall_mem_singleton.2 hfree)

/-- `orHold` is what the safe-write stall does with the state that the rest of the operation leaves. -/
theorem RunsTo.swStall (hrest : RunsTo rest s t) : RunsTo (swStall gs p rest) s (orHold gs p s t) := by
  unfold orHold
  split
  · next hstall =>
    obtain ⟨hsafe, hpend⟩ := hstall
    exact runsTo_swStall_hold hsafe hpend
  · next hpass =>
    cases hsafe : s.rtcd.safeWrite with
    | false => exact hrest.swStall_off hsafe
    | true =>
      refine hrest.swStall_free fun g hg => ?_
      simpa using fun hpend => hpass ⟨hsafe, g, hg, hpend⟩

end

/-! ### Posts (20_memory.md R104, R105, 40_rtc_ops.md R232) -/

/-- A post reads and writes nothing of the main context. -/
theorem post_enterCritical (g : Group) (v : U16) (s : State) :
    post g v (enterCritical s) = enterCritical (post g v s) := by
  cases h : s.rtc.posted.get g with
  | none => rw [post_free h, post_free (s := enterCritical s) h]; rfl
  | some w =>
    have hdraw : drawBool (enterCritical s) = ((drawBool s).1, enterCritical (drawBool s).2) := by
      simp only [drawBool, drawNat, enterCritical_env]
      split <;> rfl
    rw [post_occupied h, post_occupied (s := enterCritical s) h, hdraw]
    rfl

@[simp] theorem post_main (g : Group) (v : U16) (s : State) : (post g v s).main = s.main := by
  rcases post_cases g v s with ⟨_, h⟩ | ⟨_, _, _, _, _, h⟩ <;> simp [h]

@[simp] theorem post_rtcd (g : Group) (v : U16) (s : State) : (post g v s).rtcd = s.rtcd := by
  rcases post_cases g v s with ⟨_, h⟩ | ⟨_, _, _, _, _, h⟩ <;> simp [h]

/-- A lost write latches WERR, which is not the FAILSAFE bit. -/
theorem post_failsafe (g : Group) (v : U16) (s : State) :
    (post g v s).rtc.status.getLsbD 2 = s.rtc.status.getLsbD 2 := by
  rcases post_cases g v s with ⟨_, h⟩ | ⟨_, _, _, _, _, h⟩ <;> rw [h]
  · rfl
  · simp

theorem postSplit_enterCritical (lo hi : Group) (v : U32) (s : State) :
    postSplit lo hi v (enterCritical s) = enterCritical (postSplit lo hi v s) := by
  simp only [postSplit, post_enterCritical]

@[simp] theorem postSplit_main (lo hi : Group) (v : U32) (s : State) : (postSplit lo hi v s).main = s.main := by
  simp only [postSplit, post_main]

/-- Both halves of a split write are kept where both buffers are free. -/
theorem postSplit_free {lo hi : Group} {v : U32} {s : State} (hne : hi ≠ lo) (hlo : s.rtc.posted.get lo = none)
    (hhi : s.rtc.posted.get hi = none) :
    postSplit lo hi v s = (s.setPosted lo (some (lowHalf v))).setPosted hi (some (highHalf v)) := by
  have hfree : (s.setPosted lo (some (lowHalf v))).rtc.posted.get hi = none := by
    simp [PerGroup.get_set, hne, hhi]
  rw [postSplit, post_free hlo, post_free hfree]

/-- A post, and then the rest of the pseudocode. -/
theorem RunsTo.of_post {f rest : State → Run} {g : Group} {v : U16} {s t : State}
    (hrest : RunsTo rest (post g v s) t) (hf : f (enterCritical s) = rest (post g v (enterCritical s))) :
    RunsTo f s t :=
  ⟨by rw [hf, post_enterCritical, hrest.run], by rw [hrest.crit, post_main]⟩

theorem RunsTo.of_postSplit {f rest : State → Run} {lo hi : Group} {v : U32} {s t : State}
    (hrest : RunsTo rest (postSplit lo hi v s) t)
    (hf : f (enterCritical s) = rest (postSplit lo hi v (enterCritical s))) : RunsTo f s t :=
  ⟨by rw [hf, postSplit_enterCritical, hrest.run], by rw [hrest.crit, postSplit_main]⟩

end Sys2Proof.Machine

/-! The RTC operations (40_rtc_ops.md R200 to R232): what each leaves from its start, and from the stall it held at. -/

namespace Sys2Proof.Machine

open Sys2Proof.Cert

/-! ### The gate (40_rtc_ops.md R231) -/

/-- Every RTC operation with a handle starts with the gate, exempt from the failsafe check as `failsafeExempt` says. -/
theorem exec_eq_gate_mainStep {i : Instr} {h : Byte} (hi : rtcHandleOf i = some h) :
    ∃ rest resume, ∀ s, exec i s = mainStep (gate (opcodeOf i) h (failsafeExempt i) rest) resume s := by
  cases i with
  | rtcUnInit | rtcRegisterCallback | rtcSynchronizeAllWrites => cases hi; exact ⟨_, _, fun _ => rfl⟩
  | rtcEnableDevice | rtcEnableAlarm | rtcEnableTrim | rtcEnableLcdUpdate => cases hi; exact ⟨_, _, fun _ => rfl⟩
  | rtcEnableInterrupts | rtcEnableSafeWrites | rtcGetCount | rtcSetCount => cases hi; exact ⟨_, _, fun _ => rfl⟩
  | rtcGetAlarm | rtcSetAlarm | rtcGetTrim | rtcSetTrim => cases hi; exact ⟨_, _, fun _ => rfl⟩
  | rtcGetInterruptStatus | rtcClearInterruptStatus => cases hi; exact ⟨_, _, fun _ => rfl⟩
  | rtcGetWritePendStatus | rtcGetWriteSyncStatus | rtcGetWriteErrorSource => cases hi; exact ⟨_, _, fun _ => rfl⟩
  | _ => simp [rtcHandleOf] at hi

/-- Settles O22: the operation starts with the gate, which makes its checks in this order. -/
theorem rtcHandleGate : Obligations.RtcHandleGate := by
  intro i h s hi hs
  obtain ⟨rest, resume, hexec⟩ := exec_eq_gate_mainStep hi
  rw [hexec]
  refine ⟨fun hh => ?_, fun hh hinit => ?_, fun hh hinit hexempt hfs => ?_⟩
  · exact (runsTo_gate_badHandle hh).mainStep_start hs
  · exact (runsTo_gate_notInitialized hh hinit).mainStep_start hs
  · rw [hexempt]
    exact (runsTo_gate_clockFailsafe hh hinit hfs).mainStep_start hs

/-! ### Software state (40_rtc_ops.md R201, R209, R229) -/

/-- A gated operation that updates the state and returns. -/
theorem gatedUpdate_open {op : Byte} {g : State → State} {s : State} (hs : AtStart s) (hopen : RtcOpen s)
    (hg : g (enterCritical s) = enterCritical (g s)) (hmain : (g s).main = s.main) :
    mainStep (gate op 0#8 false fun t => retRtc op .success (g t)) noResume s =
      .next (ret op (.rtc .success) {} (g s)) := by
  refine (RunsTo.gate_open ⟨?_, by simp [ret, hmain]⟩ hopen).mainStep_start hs
  rw [hg]
  rfl

/-- Settles O25: with the gate passed, each of the three is one update of software state and the core line. -/
theorem rtcSoftwareOperations : Obligations.RtcSoftwareOperations := fun _ hs hopen =>
  ⟨gatedUpdate_open hs hopen rfl rfl, fun _ => gatedUpdate_open hs hopen rfl rfl,
    fun _ _ => gatedUpdate_open hs hopen rfl rfl⟩

/-! ### Getters (40_rtc_ops.md R214 to R226) -/

/-- R232: the two halves of a value make the value. -/
theorem joinHalves_halves (v : U32) : joinHalves (highHalf v) (lowHalf v) = v :=
  (BitVec.extractLsb'_append_extractLsb'_eq_extractLsb' rfl).trans BitVec.extractLsb'_eq_self

theorem setLine_setLine_get (s : State) (l : Line) (b : Bool) : (s.setLine l b).setLine l (s.nvic.get l) = s := by
  simp [State.setLine]

/-- A committed value is read alike inside the critical region, and whatever the core line. -/
theorem rd_setLine_enterCritical (l : Line) (b : Bool) (g : Group) (s : State) :
    rd ((enterCritical s).setLine l b) g = rd s g := by
  cases g <;> rfl

/-- R214, R218: the core line is back at its value when the two halves have been read. -/
theorem runsTo_pairedRead (op : Byte) (lo hi : Group) (s : State) :
    RunsTo (pairedRead op lo hi) s (ret op (.rtc .success) { value := some (joinHalves (rd s hi) (rd s lo)) } s) := by
  refine ⟨?_, rfl⟩
  simp only [pairedRead, rd_setLine_enterCritical, setLine_setLine_get]
  rfl

theorem gatedGetter_open {op : Byte} {value : State → U32} {s : State} (hs : AtStart s) (hopen : RtcOpen s)
    (hvalue : value (enterCritical s) = value s) :
    gatedGetter op 0#8 value s = .next (ret op (.rtc .success) { value := some (value s) } s) := by
  have hbody : RunsTo (fun t => retValue op (value t) t) s (ret op (.rtc .success) { value := some (value s) } s) :=
    ⟨by simp only [hvalue]; rfl, rfl⟩
  exact (hbody.gate_open hopen).mainStep_start hs

/-- R154: the sum that makes the mask is its binary numeral. -/
theorem groupSum_eq_bits (f : Group → Bool) :
    (allGroups.map fun g => if f g then 2 ^ groupNumber g else 0).sum =
      Nat.bit (f .control) (Nat.bit (f .status0) (Nat.bit (f .countLo) (Nat.bit (f .countHi) (Nat.bit (f .alarmLo)
        (Nat.bit (f .alarmHi) (Nat.bit (f .trim) 0)))))) := by
  have hterm : ∀ (b : Bool) (k : Nat), (if b then 2 ^ k else 0) = b.toNat * 2 ^ k := by
    intro b k
    cases b <;> simp
  simp only [allGroups, List.map_cons, List.map_nil, List.sum_cons, List.sum_nil, hterm, groupNumber, Nat.bit_val]
  omega

theorem groupBits_getLsbD (f : Group → Bool) (g : Group) : (groupBits f).getLsbD (groupNumber g) = f g := by
  rw [groupBits, groupSum_eq_bits, BitVec.getLsbD_ofNat]
  cases g <;> simp [groupNumber, Nat.testBit_bit_succ]

theorem groupBits_getLsbD_above (f : Group → Bool) {n : Nat} (hn : 7 ≤ n) : (groupBits f).getLsbD n = false := by
  obtain ⟨k, rfl⟩ := Nat.exists_eq_add_of_le' hn
  rw [groupBits, groupSum_eq_bits, BitVec.getLsbD_ofNat]
  simp [Nat.testBit_bit_succ]

/-- Settles O29: a getter's body is its value and the return; the two halves of a paired read make the whole value. -/
theorem rtcGetters : Obligations.RtcGetters := by
  refine ⟨fun s hs hopen => ?_, fun f => ⟨groupBits_getLsbD f, fun n hn => groupBits_getLsbD_above f hn⟩⟩
  refine ⟨?_, ?_, ?_, ?_, ?_, ?_, ?_⟩
  · rw [← joinHalves_halves s.rtc.count]
    exact ((runsTo_pairedRead _ .countLo .countHi s).gate_open hopen).mainStep_start hs
  · rw [← joinHalves_halves s.rtc.alarm]
    exact ((runsTo_pairedRead _ .alarmLo .alarmHi s).gate_open hopen).mainStep_start hs
  all_goals exact gatedGetter_open hs hopen rfl

/-! ### Control enables (40_rtc_ops.md R203 to R207) -/

/-- R206: the update of the committed control is posted. -/
theorem runsTo_ctlUpdatePost (op : Byte) (m : U16) (b : Bool) (s : State) :
    RunsTo (ctlUpdatePost op m b) s (ret op (.rtc .success) {} (post .control (updated s.rtc.control m b) s)) :=
  (runsTo_retRtc op .success _).of_post rfl

/-- An instruction of a control enable is `controlEnable` of its bits, at handle 0. -/
theorem exec_eq_controlEnable {i : Instr} {m : U16} {b : Bool} (hi : controlEnableOf i = some (m, b)) (s : State) :
    exec i s = controlEnable (opcodeOf i) 0#8 m b s := by
  cases i with
  | rtcEnableDevice h b' | rtcEnableAlarm h b' | rtcEnableTrim h b' | rtcEnableLcdUpdate h b' =>
    simp only [controlEnableOf, Option.ite_none_right_eq_some, Option.some.injEq, Prod.mk.injEq] at hi
    obtain ⟨rfl, rfl, rfl⟩ := hi
    rfl
  | _ => simp [controlEnableOf] at hi

/-- Settles O27: the gate, the stall, and the post of the update. -/
theorem rtcControlEnables : Obligations.RtcControlEnables := by
  intro i m b s hi
  rw [exec_eq_controlEnable hi]
  have hpost := runsTo_ctlUpdatePost (opcodeOf i) m b s
  exact ⟨fun hs hopen => (hpost.swStall.gate_open hopen).mainStep_start hs, fun hs => hpost.mainStep_resume hs⟩

/-! ### Interrupts (40_rtc_ops.md R208, R223) -/

theorem runsTo_enableInterruptsLine (b : Bool) (s : State) :
    RunsTo (enableInterruptsLine b) s (ret 0x07#8 (.rtc .success) {} (s.setLine .rtc b)) :=
  ⟨rfl, rfl⟩

/-- R208: the update of the interrupt enables is posted, and the core line set. -/
theorem runsTo_enableInterruptsPost (mask : U16) (b : Bool) (s : State) :
    RunsTo (enableInterruptsPost mask b) s
      (ret 0x07#8 (.rtc .success) {}
        (State.setLine (post .control (updated s.rtc.control ((mask &&& 0x0003#16) <<< 4) b) s) .rtc b)) :=
  (runsTo_enableInterruptsLine b _).of_post rfl

theorem runsTo_clearStatusPost (mask : U16) (s : State) :
    RunsTo (clearStatusPost mask) s (ret 0x10#8 (.rtc .success) {} (post .status0 mask s)) :=
  (runsTo_retRtc 0x10#8 .success _).of_post rfl

/-- R208 from its start, where its body, past the gate, runs to `t`. -/
theorem exec_enableInterrupts_open {mask : U16} {b : Bool} {s t : State} (hs : AtStart s) (hopen : RtcOpen s)
    (hbody : RunsTo (fun u =>
      if mask &&& ~~~intMask ≠ 0#16 then retRtc 0x07#8 .badParam u
      else if mask ≠ 0#16 then swStall [.control] .stall (enableInterruptsPost mask b) u
      else enableInterruptsLine b u) s t) :
    exec (.rtcEnableInterrupts 0#8 mask b) s = .next t :=
  (hbody.gate_open hopen).mainStep_start hs

/-- R223 from its start, where its body, past the gate, runs to `t`. -/
theorem exec_clearInterruptStatus_initialized {mask : U16} {s t : State} (hs : AtStart s)
    (hinit : s.rtcd.initialized = true)
    (hbody : RunsTo (fun u =>
      if failsafe u && mask != failsafeMask then retRtc 0x10#8 .clockFailsafe u
      else if mask &&& ~~~statusMask ≠ 0#16 then retRtc 0x10#8 .badParam u
      else if mask = 0#16 then retRtc 0x10#8 .success u
      else swStall [.status0] .stall (clearStatusPost mask) u) s t) :
    exec (.rtcClearInterruptStatus 0#8 mask) s = .next t :=
  (hbody.gate_exempt hinit).mainStep_start hs

/-- 90_conflicts.md C1: the failsafe check of RTC_ClearInterruptStatus passes out of failsafe, and on FAILSAFE alone. -/
theorem clearStatus_passes_failsafe {mask : U16} {s : State}
    (hpass : s.rtc.status.getLsbD 2 = false ∨ mask = 0x0004#16) :
    ¬(failsafe (enterCritical s) && mask != failsafeMask) = true := by
  rcases hpass with hfs | rfl
  · simp only [failsafe, enterCritical_rtc, hfs, Bool.false_and, Bool.false_eq_true, not_false_eq_true]
  · simp [failsafeMask]

/-- Settles O28: each clause is one branch of the two bodies, and a mask of 0 passes the check of the mask. -/
theorem rtcInterruptOperations : Obligations.RtcInterruptOperations := by
  refine ⟨fun mask b s hs hopen => ⟨fun hbad => ?_, fun hzero => ?_, fun hgood hmask => ?_⟩,
    fun mask b s hs => (runsTo_enableInterruptsPost mask b s).mainStep_resume hs,
    fun mask s hs hinit =>
      ⟨fun hfs hmask => ?_, fun hpass => ⟨fun hbad => ?_, fun hzero => ?_, fun hgood hmask => ?_⟩⟩,
    fun mask s hs => (runsTo_clearStatusPost mask s).mainStep_resume hs⟩
  · exact exec_enableInterrupts_open hs hopen ((runsTo_retRtc _ _ _).ite_pos hbad)
  · have hgood : mask &&& ~~~0x0003#16 = 0#16 := by rw [hzero, BitVec.zero_and]
    exact exec_enableInterrupts_open hs hopen
      (((runsTo_enableInterruptsLine b s).ite_neg (not_not.2 hzero)).ite_neg (not_not.2 hgood))
  · exact exec_enableInterrupts_open hs hopen
      (((runsTo_enableInterruptsPost mask b s).swStall.ite_pos hmask).ite_neg (not_not.2 hgood))
  · have hfails : (failsafe (enterCritical s) && mask != failsafeMask) = true := by
      simp only [failsafe, enterCritical_rtc, hfs, Bool.true_and, bne_iff_ne, ne_eq]
      exact hmask
    exact exec_clearInterruptStatus_initialized hs hinit ((runsTo_retRtc _ _ _).ite_pos hfails)
  · exact exec_clearInterruptStatus_initialized hs hinit
      (((runsTo_retRtc _ _ _).ite_pos hbad).ite_neg (clearStatus_passes_failsafe hpass))
  · have hgood : mask &&& ~~~0x0007#16 = 0#16 := by rw [hzero, BitVec.zero_and]
    exact exec_clearInterruptStatus_initialized hs hinit
      ((((runsTo_retRtc _ _ _).ite_pos hzero).ite_neg (not_not.2 hgood)).ite_neg (clearStatus_passes_failsafe hpass))
  · exact exec_clearInterruptStatus_initialized hs hinit
      ((((runsTo_clearStatusPost mask s).swStall.ite_neg hmask).ite_neg (not_not.2 hgood)).ite_neg
        (clearStatus_passes_failsafe hpass))

/-! ### Waits for SYNC (40_rtc_ops.md R202, R228) -/

theorem mem_allGroups (g : Group) : g ∈ allGroups := by
  cases g <;> simp [allGroups]

/-- Settles O26: the wait holds on an unsynchronized group, and with STATUS0 synchronized its posting buffer is free. -/
theorem rtcSyncWaits : Obligations.RtcSyncWaits := by
  refine ⟨fun s => ⟨fun hs hsync => ?_, fun hs => ?_⟩,
    fun s => ⟨fun hs hopen hsync => ?_, fun hhnd hcrit hk hsync => ?_⟩⟩
  · have hunmet : (Await.noSync [.status0]).holds s = false := noSync_unmet_iff.2 ⟨.status0, by simp, hsync⟩
    exact (runsTo_awaitThen_unmet hunmet).mainStep_start hs
  · have ⟨_, _, _, hmet⟩ := hs
    have hfree : s.rtc.posted.get .status0 = none :=
      posted_none_of_sync_false (noSync_holds_iff.1 hmet .status0 (by simp))
    have hpost : RunsTo clearFailSafePost s (ret 0x02#8 (.rtc .success) {} (post .status0 0x0004#16 s)) :=
      (runsTo_retRtc 0x02#8 .success _).of_post rfl
    rw [post_free hfree] at hpost
    exact mainStep_reaches hs (hpost.awaitThen_met hmet) hpost
  · obtain ⟨g, hg⟩ := hsync
    have hunmet : (Await.noSync allGroups).holds s = false := noSync_unmet_iff.2 ⟨g, mem_allGroups g, hg⟩
    exact ((runsTo_awaitThen_unmet hunmet).gate_open hopen).mainStep_start hs
  · have hmet : (Await.noSync allGroups).holds s = true := noSync_holds_iff.2 fun g _ => hsync g
    have hret := runsTo_retRtc 0x14#8 .success s
    rcases hk with ⟨hk, hopen⟩ | hk
    · exact ((hret.awaitThen_met hmet).gate_open hopen).mainStep_start ⟨hhnd, hk, hcrit⟩
    · exact hret.mainStep_resume ⟨hhnd, hk, hcrit, hmet⟩

/-! ### Setters (40_rtc_ops.md R215, R219, R221) -/

theorem runsTo_setAlarmPost (v : U32) (s : State) :
    RunsTo (setAlarmPost v) s (ret 0x0C#8 (.rtc .success) {} (postSplit .alarmLo .alarmHi v s)) :=
  (runsTo_retRtc 0x0C#8 .success _).of_postSplit rfl

theorem runsTo_setTrimPost (v : U16) (s : State) :
    RunsTo (setTrimPost v) s (ret 0x0E#8 (.rtc .success) {} (post .trim (v &&& trimMask s.cfg.trimLayout) s)) :=
  (runsTo_retRtc 0x0E#8 .success _).of_post rfl

theorem runsTo_setCountClear (s : State) :
    RunsTo setCountClear s (ret 0x0A#8 (.rtc .success) {} (post .status0 0x0004#16 s)) :=
  (runsTo_retRtc 0x0A#8 .success _).of_post rfl

theorem runsTo_setCountClear_free {s : State} (hfree : s.rtc.posted.status0 = none) :
    RunsTo setCountClear s
      (ret 0x0A#8 (.rtc .success) {}
        { s with rtc := { s.rtc with posted := { s.rtc.posted with status0 := some 0x0004#16 } } }) := by
  have hclear := runsTo_setCountClear s
  rwa [post_free (g := .status0) hfree] at hclear

/-- RTC_SetCount once both halves of the count are posted (R215). -/
def setCountRest (s : State) : Run :=
  if failsafe s then swStall [.status0] .statusStall setCountClear s else retRtc 0x0A#8 .success s

theorem setCountPost_eq (v : U32) (s : State) :
    setCountPost v s = setCountRest (postSplit .countLo .countHi v s) := rfl

theorem runsTo_setCountRest_running {s : State} (hfs : s.rtc.status.getLsbD 2 = false) :
    RunsTo setCountRest s (ret 0x0A#8 (.rtc .success) {} s) :=
  (runsTo_retRtc 0x0A#8 .success s).ite_neg (ne_true_of_eq_false hfs)

theorem RunsTo.setCountRest_failsafe {s t : State}
    (hclear : RunsTo (Machine.swStall [.status0] .statusStall setCountClear) s t)
    (hfs : s.rtc.status.getLsbD 2 = true) : RunsTo setCountRest s t :=
  hclear.ite_pos hfs

/-- Both halves of `v` in the posting buffers of the count (R232). -/
def countPosted (v : U32) (s : State) : State :=
  (s.setPosted .countLo (some (lowHalf v))).setPosted .countHi (some (highHalf v))

theorem postSplit_eq_countPosted {v : U32} {s : State}
    (hfree : ∀ g ∈ [Group.countLo, .countHi], s.rtc.posted.get g = none) :
    postSplit .countLo .countHi v s = countPosted v s :=
  postSplit_free (by decide) (hfree .countLo (by simp)) (hfree .countHi (by simp))

/-- Where the first stall ends at once or has ended, both halves of the count are kept. -/
theorem exec_setCount_reaches {v : U32} {s t : State} (hinit : s.rtcd.initialized = true)
    (hs : Reaches (.noPend [.countLo, .countHi]) .stall s)
    (hrest : RunsTo setCountRest (countPosted v s) t) :
    exec (.rtcSetCount 0#8 v) s = .next t := by
  have ⟨_, _, _, hmet⟩ := hs
  have hfree := noPend_holds_iff.1 hmet
  rw [← postSplit_eq_countPosted hfree] at hrest
  have hpost : RunsTo (setCountPost v) s t := hrest.of_postSplit (setCountPost_eq v _)
  exact mainStep_reaches hs ((hpost.swStall_free hfree).gate_exempt hinit) hpost

/-- With safe-write off every stall is passed, whatever is pending. -/
theorem exec_setCount_safeWrite_off {v : U32} {s t : State} (hinit : s.rtcd.initialized = true) (hs : AtStart s)
    (hoff : s.rtcd.safeWrite = false) (hrest : RunsTo setCountRest (postSplit .countLo .countHi v s) t) :
    exec (.rtcSetCount 0#8 v) s = .next t := by
  have hpost : RunsTo (setCountPost v) s t := hrest.of_postSplit (setCountPost_eq v _)
  exact ((hpost.swStall_off hoff).gate_exempt hinit).mainStep_start hs

/-- Settles O30: each clause is a way through the stalls of one operation. -/
theorem rtcSetters : Obligations.RtcSetters := by
  refine ⟨fun v s hinit => ⟨fun hs hsafe hpend => ?_, fun hs hfs => ?_, fun hs hfs hfree => ?_,
      fun hs hfs hsafe hpend => ?_, fun hs hoff => ?_, fun hs => ?_⟩,
    fun s hs hopen => ⟨fun v => ?_, fun v => ?_⟩, fun v s hs => (runsTo_setAlarmPost v s).mainStep_resume hs,
    fun v s hs => (runsTo_setTrimPost v s).mainStep_resume hs⟩
  · have hhold : ∃ g ∈ [Group.countLo, .countHi], (s.rtc.posted.get g).isSome = true := by
      simpa [Option.isSome_iff_ne_none, PerGroup.get] using hpend
    exact ((runsTo_swStall_hold hsafe hhold).gate_exempt hinit).mainStep_start hs
  · exact exec_setCount_reaches hinit hs (runsTo_setCountRest_running hfs)
  · have hclear := runsTo_setCountClear_free (s := countPosted v s) hfree
    exact exec_setCount_reaches hinit hs
      ((hclear.swStall_free_single (g := .status0) hfree).setCountRest_failsafe hfs)
  · have hhold := runsTo_swStall_hold_single (g := .status0) (p := .statusStall) (rest := setCountClear)
      (s := countPosted v s) hsafe hpend
    exact exec_setCount_reaches hinit hs (hhold.setCountRest_failsafe hfs)
  · have hbit : (postSplit .countLo .countHi v s).rtc.status.getLsbD 2 = s.rtc.status.getLsbD 2 := by
      rw [postSplit, post_failsafe, post_failsafe]
    refine exec_setCount_safeWrite_off hinit hs hoff ?_
    cases hfs : s.rtc.status.getLsbD 2 with
    | false => exact runsTo_setCountRest_running (hbit.trans hfs)
    | true =>
      have hclear := runsTo_setCountClear (postSplit .countLo .countHi v s)
      exact (hclear.swStall_off (by simpa [postSplit] using hoff)).setCountRest_failsafe (hbit.trans hfs)
  · have ⟨_, _, _, hmet⟩ := hs
    exact (runsTo_setCountClear_free (noPend_holds_iff.1 hmet .status0 (by simp))).mainStep_resume hs
  · exact ((runsTo_setAlarmPost v s).swStall.gate_open hopen).mainStep_start hs
  · exact ((runsTo_setTrimPost v s).swStall.gate_open hopen).mainStep_start hs

/-! ### RTC_Init (40_rtc_ops.md R200) -/

/-- From the second stall on, with STATUS0 free: the clear of the latched sources, the driver and the core line. -/
theorem runsTo_rtcInitFinish {s : State} (hfree : s.rtc.posted.status0 = none) :
    RunsTo rtcInitFinish s
      (ret 0x00#8 (.rtc .success) { handle := some 0#8 }
        { s with
          rtc := { s.rtc with posted := { s.rtc.posted with status0 := some 0x0003#16 } }
          rtcd := { s.rtcd with initialized := true, cb := none, watch := 0#16 }
          nvic := { s.nvic with rtc := true } }) := by
  refine ⟨?_, rfl⟩
  rw [rtcInitFinish, post_free (g := .status0) (s := enterCritical s) hfree]
  rfl

/-- From the first stall on, with CONTROL free: both interrupt enables are cleared in a post of the control group. -/
theorem RunsTo.rtcInitControl {s t : State} (hfree : s.rtc.posted.control = none)
    (hrest : RunsTo (Machine.swStall [.status0] .statusStall rtcInitFinish)
      { s with
        rtc := { s.rtc with posted := { s.rtc.posted with control := some (s.rtc.control &&& ~~~0x0030#16) } } } t) :
    RunsTo rtcInitControl s t := by
  have hposted : RunsTo (Machine.swStall [.status0] .statusStall rtcInitFinish)
      (post .control (s.rtc.control &&& ~~~0x0030#16) s) t := by
    rw [post_free (g := .control) hfree]
    exact hrest
  exact hposted.of_post rfl

/-- From its start, with the checks passed: the oscillator and safe-write mode are on. -/
theorem RunsTo.rtcInitStart {s t : State} (hinit : s.rtcd.initialized = false)
    (hfs : s.rtc.status.getLsbD 2 = false)
    (hrest : RunsTo (Machine.swStall [.control] .stall Machine.rtcInitControl)
      { s with rtc := { s.rtc with oscOn := true }, rtcd := { s.rtcd with safeWrite := true } } t) :
    RunsTo (rtcInitStart 0#8) s t := by
  refine RunsTo.ite_neg (RunsTo.ite_neg ?_ (ne_true_of_eq_false hinit)) (not_not.2 rfl)
  exact ⟨(if_neg (ne_true_of_eq_false hfs)).trans hrest.run, hrest.crit⟩

/-- In failsafe RTC_Init has still switched the oscillator on. -/
theorem runsTo_rtcInitStart_failsafe {s : State} (hinit : s.rtcd.initialized = false)
    (hfs : s.rtc.status.getLsbD 2 = true) :
    RunsTo (rtcInitStart 0#8) s
      (ret 0x00#8 (.rtc .clockFailsafe) {} { s with rtc := { s.rtc with oscOn := true } }) := by
  refine RunsTo.ite_neg (RunsTo.ite_neg ?_ (ne_true_of_eq_false hinit)) (not_not.2 rfl)
  exact ⟨if_pos hfs, rfl⟩

/-- Settles O24: the checks, and then each way through the two stalls. -/
theorem rtcInit : Obligations.RtcInit := by
  refine ⟨fun s hs => ⟨fun id hid => ?_, fun hinit => ?_, fun hinit hfs => ?_, fun hinit hfs hpend => ?_,
    fun hinit hfs hcontrol hstatus => ?_, fun hinit hfs hcontrol hpend => ?_⟩,
    fun id s => ⟨fun hs hsafe hpend => ?_, fun hs hstatus => ?_, fun hs => ?_⟩⟩
  · have hstart : RunsTo (rtcInitStart id) s (ret 0x00#8 (.rtc .badInstance) {} s) := (runsTo_retRtc _ _ s).ite_pos hid
    exact hstart.mainStep_start hs
  · have hstart : RunsTo (rtcInitStart 0#8) s (ret 0x00#8 (.rtc .alreadyInitialized) {} s) :=
      ((runsTo_retRtc _ _ s).ite_pos hinit).ite_neg (not_not.2 rfl)
    exact hstart.mainStep_start hs
  · exact (runsTo_rtcInitStart_failsafe hinit hfs).mainStep_start hs
  · exact (RunsTo.rtcInitStart hinit hfs (runsTo_swStall_hold_single rfl hpend)).mainStep_start hs
  · refine RunsTo.mainStep_start (.rtcInitStart hinit hfs ?_) hs
    refine .swStall_free_single (.rtcInitControl hcontrol ?_) hcontrol
    exact .swStall_free_single (runsTo_rtcInitFinish hstatus) hstatus
  · refine RunsTo.mainStep_start (.rtcInitStart hinit hfs ?_) hs
    refine .swStall_free_single (.rtcInitControl hcontrol ?_) hcontrol
    exact runsTo_swStall_hold_single rfl hpend
  · have ⟨_, _, _, hmet⟩ := hs
    have hcontrol := List.forall_mem_singleton.1 (noPend_holds_iff.1 hmet)
    exact (RunsTo.rtcInitControl hcontrol (runsTo_swStall_hold_single hsafe hpend)).mainStep_resume hs
  · have ⟨_, _, _, hmet⟩ := hs
    have hcontrol := List.forall_mem_singleton.1 (noPend_holds_iff.1 hmet)
    refine (RunsTo.rtcInitControl hcontrol ?_).mainStep_resume hs
    exact .swStall_free_single (runsTo_rtcInitFinish hstatus) hstatus
  · have ⟨_, _, _, hmet⟩ := hs
    have hstatus := List.forall_mem_singleton.1 (noPend_holds_iff.1 hmet)
    exact (runsTo_rtcInitFinish hstatus).mainStep_resume hs

end Sys2Proof.Machine

/-! The events of the RTC slow domain and the RTC interrupt handler (41_rtc_hw.md R270 to R281): the state each leaves
where it is enabled. -/

namespace Sys2Proof.Machine

open Sys2Proof.Cert

/-- An enabled event whose effect is an update of the state leaves the updated state (60_exceptions.md R544). -/
theorem eventStep_update {enabled : State → Bool} {update : State → State} {s : State} (henabled : enabled s = true) :
    eventStep enabled (fun t => .ok (update t)) s = .next (update s) := by
  rw [eventStep, if_pos henabled, finishAgent]

/-! ### What each of them runs -/

theorem exec_rtcAccept (g : Group) (s : State) : exec (.rtcAccept g) s = execRtcAccept g s := rfl

theorem exec_rtcCommit (g : Group) (s : State) : exec (.rtcCommit g) s = execRtcCommit g s := rfl

theorem exec_rtcSecond (s : State) : exec .rtcSecond s = execRtcSecond s := rfl

theorem exec_rtcFailsafeLatch (s : State) : exec .rtcFailsafeLatch s = execRtcFailsafeLatch s := rfl

theorem exec_rtcIsr (s : State) : exec .rtcIsr s = execRtcIsr s := rfl

/-! ### The slow domain (41_rtc_hw.md R270 to R274) -/

/-- R109: WERR lies in the status mask, so the mask does not change whether the error source is reset. -/
theorem w1c_eq_committed (l : TrimLayout) (v : U16) (r : RtcHw) : w1c v r = committed l .status0 v r := by
  have hwerr : (v &&& statusMask).getLsbD 1 = v.getLsbD 1 := by simp [statusMask]
  rw [w1c, hwerr]
  rfl

/-- R108: what a commit writes, group by group. -/
theorem applyWrite_eq_committed (l : TrimLayout) (g : Group) (v : U16) (r : RtcHw) :
    applyWrite l g v r = committed l g v r := by
  cases g with
  | status0 => exact w1c_eq_committed l v r
  | control => rfl
  | countLo => rfl
  | countHi => rfl
  | alarmLo => rfl
  | alarmHi => rfl
  | trim => rfl

/-- A commit changes committed values only, and no stage of the pipeline. -/
theorem committed_inflight (l : TrimLayout) (g : Group) (v : U16) (r : RtcHw) :
    (committed l g v r).inflight = r.inflight := by
  cases g <;> rfl

theorem commitWrite_of_inflight {g : Group} {v : U16} {s : State} (hv : s.rtc.inflight.get g = some v) :
    commitWrite g s =
      { s with rtc := { committed s.cfg.trimLayout g v s.rtc with inflight := s.rtc.inflight.set g none } } := by
  simp only [commitWrite, hv, applyWrite_eq_committed, State.setInflight, committed_inflight]

/-- R274: the comparison is with the count as it stands, and the device enable is already known. -/
theorem alarmCompare_of_enabled {s : State} (hen : s.rtc.control.getLsbD 0 = true) :
    alarmCompare s =
      { s with
        rtc :=
          { s.rtc with
            status :=
              if s.rtc.control.getLsbD 1 = true ∧ s.rtc.count = s.rtc.alarm then s.rtc.status ||| 0x0001#16
              else s.rtc.status } } := by
  have hmatch : alarmMatches s = true ↔ s.rtc.control.getLsbD 1 = true ∧ s.rtc.count = s.rtc.alarm := by
    simp [alarmMatches, hen]
  simp only [alarmCompare, hmatch]
  split <;> rfl

/-- Settles O31: each event is enabled, and its effect is the stated state. -/
theorem rtcSlowDomainEvents : Obligations.RtcSlowDomainEvents := by
  refine ⟨fun g v s hosc hposted hfree => ?_, fun g v s hosc hinflight => ?_, fun s hosc hen => ?_⟩
  · have henabled : acceptEnabled g s = true := by simp [acceptEnabled, hosc, hposted, hfree]
    rw [exec_rtcAccept, execRtcAccept, eventStep_update henabled, hposted]
    rfl
  · have henabled : commitEnabled g s = true := by simp [commitEnabled, hosc, hinflight]
    rw [exec_rtcCommit, execRtcCommit, eventStep_update henabled, commitWrite_of_inflight hinflight]
  · have henabled : (s.rtc.oscOn && s.rtc.control.getLsbD 0) = true := by rw [hosc, hen]; rfl
    rw [exec_rtcSecond, execRtcSecond, eventStep_update henabled]
    exact congrArg Host.Outcome.next (alarmCompare_of_enabled hen)

/-! ### The loss of power (41_rtc_hw.md R276) -/

/-- A draw of `w` bits takes the outcome that the tape fixes, where that outcome fits (00_scope.md R13, log 3). -/
theorem drawBits_of_tape {w : Nat} {n : BitVec w} {s : State} {rest : List Nat}
    (htape : s.env.tape = n.toNat :: rest) :
    drawBits w s = (n, { s with env := { s.env with tape := rest } }) := by
  simp only [drawBits, drawNat, htape, BitVec.ofNat_toNat, BitVec.setWidth_eq]

/-- The six draws take the next six outcomes of the tape, in the order of R276 (log 23). -/
theorem drawRtc_of_tape {f : BitVec 2} {c a : U32} {k t : U16} {e : BitVec 3} {rest : List Nat} {s : State}
    (htape : s.env.tape = f.toNat :: c.toNat :: a.toNat :: k.toNat :: t.toNat :: e.toNat :: rest) :
    drawRtc s =
      ({ flags := f, count := c, alarm := a, control := k, trim := t, errSrc := e },
        { s with env := { s.env with tape := rest } }) := by
  rw [drawRtc, drawBits_of_tape htape, drawBits_of_tape (n := c) rfl, drawBits_of_tape (n := a) rfl,
    drawBits_of_tape (n := k) rfl, drawBits_of_tape (n := t) rfl, drawBits_of_tape (n := e) rfl]

/-- Where the event may occur, it draws the six values and leaves the RTC domain without its power. -/
theorem exec_failsafeLatch_enabled {s : State} (hindep : s.cfg.rtcDomainIndep = true)
    (hosc : s.rtc.oscOn = true ∨ s.cfg.latchNeedsOsc = false) :
    exec .rtcFailsafeLatch s =
      .next { (drawRtc s).2 with
        rtc :=
          let d := (drawRtc s).1
          powerLost s.cfg.trimLayout d.flags d.count d.alarm d.control d.trim d.errSrc s.rtc } := by
  have henabled : failsafeLatchEnabled s = true := by simpa [failsafeLatchEnabled, hindep] using hosc
  rw [exec_rtcFailsafeLatch, execRtcFailsafeLatch, eventStep_update henabled]
  rfl

/-- Settles O32: the draws are the witnesses, and a tape that fixes six outcomes says which they are. -/
theorem rtcFailsafeLatch : Obligations.RtcFailsafeLatch := by
  intro s hindep hosc
  rw [exec_failsafeLatch_enabled hindep hosc]
  refine ⟨?_, fun f c a k t e rest htape => ?_⟩
  · obtain ⟨env, hdrawn, _, _⟩ := drawRtc_state s
    rw [hdrawn]
    exact ⟨_, _, _, _, _, _, env, rfl⟩
  · rw [drawRtc_of_tape htape]

/-! ### The interrupt handler (41_rtc_hw.md R280, 60_exceptions.md R533) -/

/-- A post reads and writes nothing of the handler. -/
theorem leaveHandler_post (g : Group) (v : U16) (s : State) :
    leaveHandler (post g v s) = post g v (leaveHandler s) := by
  cases h : s.rtc.posted.get g with
  | none => rw [post_free h, post_free (s := leaveHandler s) h]; rfl
  | some w =>
    have hdraw : drawBool (leaveHandler s) = ((drawBool s).1, leaveHandler (drawBool s).2) := by
      simp only [drawBool, drawNat, leaveHandler_env]
      split <;> rfl
    rw [post_occupied h, post_occupied (s := leaveHandler s) h, hdraw]
    rfl

/-- R549: a callback is logged where one is registered, and nothing else changes. -/
theorem callback_eq (cb : Option Byte) (arg : U32) (s : State) :
    callback cb arg s = { s with cblog := s.cblog ++ (cb.map fun f => (f, arg)).toList } := by
  cases cb with
  | none => simp [callback]
  | some f => rfl

/-- The callback of a watched bit is logged, and nothing else changes. -/
theorem rtcCallback_eq (fired : U16) (s : State) :
    rtcCallback fired s =
      if fired &&& s.rtcd.watch ≠ 0#16 then
        { s with cblog := s.cblog ++ (s.rtcd.cb.map fun f => (f, fired.setWidth 32)).toList }
      else s := by
  simp only [rtcCallback, callback_eq]

@[simp] theorem rtcCallback_rtc (fired : U16) (s : State) : (rtcCallback fired s).rtc = s.rtc := by
  rw [rtcCallback_eq]
  split <;> rfl

@[simp] theorem rtcCallback_rtcd (fired : U16) (s : State) : (rtcCallback fired s).rtcd = s.rtcd := by
  rw [rtcCallback_eq]
  split <;> rfl

@[simp] theorem rtcCallback_hnd (fired : U16) (s : State) : (rtcCallback fired s).hnd = s.hnd := by
  rw [rtcCallback_eq]
  split <;> rfl

/-- A callback reads and writes nothing of the handler that makes it. -/
theorem rtcCallback_enterHandler (fired : U16) (h : Handler) (s : State) :
    rtcCallback fired (enterHandler h s) = enterHandler h (rtcCallback fired s) := by
  rw [rtcCallback_eq, rtcCallback_eq, apply_ite (enterHandler h)]
  rfl

/-- With no handler active, an invocation that is entered and left changes nothing. -/
theorem leaveHandler_enterHandler {h : Handler} {s : State} (hidle : s.hnd = none) :
    leaveHandler (enterHandler h s) = s := by
  change { s with hnd := none } = s
  rw [← hidle]

/-- R280: from its start the handler holds at its stall, or posts the clear and returns. -/
theorem rtcIsrStart_eq {s : State} (hidle : s.hnd = none) :
    rtcIsrStart s =
      if s.rtcd.safeWrite = true ∧ s.rtc.posted.status0 ≠ none then
        { rtcCallback (rtcFired s) s with hnd := some { handler := .rtcIsr, point := .stall (rtcFired s) } }
      else post .status0 (rtcFired s) (rtcCallback (rtcFired s) s) := by
  have hstall : (s.rtcd.safeWrite && (s.rtc.posted.get .status0).isSome) = true ↔
      s.rtcd.safeWrite = true ∧ s.rtc.posted.status0 ≠ none := by
    simp [PerGroup.get, Option.isSome_iff_ne_none]
  have hreturn : leaveHandler (enterHandler .rtcIsr (rtcCallback (rtcFired s) s)) = rtcCallback (rtcFired s) s :=
    leaveHandler_enterHandler ((rtcCallback_hnd _ s).trans hidle)
  simp only [rtcIsrStart, rtcIsrClear, pend, rtcCallback_enterHandler, leaveHandler_post, hreturn, enterHandler_rtc,
    enterHandler_rtcd, rtcCallback_rtc, rtcCallback_rtcd, hstall]
  rfl

/-- A new invocation (60_exceptions.md R530, R533). -/
theorem exec_rtcIsr_start {s : State} (hstart : MayStart .rtc (rtcReq s) s) :
    exec .rtcIsr s = .next (rtcIsrStart s) := by
  obtain ⟨hline, hreq, hcrit, hidle⟩ := hstart
  have henabled : handlerCanStart .rtc (rtcReq s) s = true := by simp [handlerCanStart, hline, hreq, hcrit, hidle]
  rw [exec_rtcIsr, execRtcIsr, hidle]
  exact eventStep_update (enabled := fun t => handlerCanStart .rtc (rtcReq t) t) henabled

/-- The holding invocation goes on (60_exceptions.md R533, R545). -/
theorem exec_rtcIsr_resume {fired : U16} {s : State}
    (hhold : s.hnd = some { handler := .rtcIsr, point := .stall fired }) (hfree : s.rtc.posted.status0 = none) :
    exec .rtcIsr s = .next (rtcIsrClear fired s) := by
  have henabled : (!pend s .status0) = true := by simp [pend, PerGroup.get, hfree]
  rw [exec_rtcIsr, execRtcIsr, hhold]
  exact eventStep_update (enabled := fun t => !pend t .status0) henabled

/-- Settles O33: a new invocation holds or returns, and a holding one posts to the free buffer and returns. -/
theorem rtcIsr : Obligations.RtcIsr := by
  refine fun s => ⟨fun hstart => ?_, fun fired hhold hfree => ?_⟩
  · have ⟨_, _, _, hidle⟩ := hstart
    rw [exec_rtcIsr_start hstart, rtcIsrStart_eq hidle, rtcCallback_eq]
    rfl
  · rw [exec_rtcIsr_resume hhold hfree, rtcIsrClear, post_free (g := .status0) hfree]
    rfl

end Sys2Proof.Machine

/-! How the I2C operations of lifecycle and configuration run (42_i2c_master.md R320 to R328, 43_i2c_slave.md R400 to
R403): one rule for each procedure they share, and then the operations. -/

namespace Sys2Proof.Machine

open Sys2Proof.Cert

/-! ### A main-context step, and what its pseudocode leaves -/

section
variable {start f g : State → Run} {resume : Point → State → Run} {s t : State} {c : Await} {p : Point}

/-- A step from the start of an operation, also where its pseudocode does not run to its end. -/
theorem mainStep_of_atStart (hs : AtStart s) :
    mainStep start resume s = finishMain s (start (enterCritical s)) := by
  obtain ⟨hhnd, hk, _⟩ := hs
  simp [mainStep, hhnd, hk]

theorem mainStep_of_resumes (hs : Resumes c p s) :
    mainStep start resume s = finishMain s (resume p (enterCritical s)) := by
  obtain ⟨hhnd, hk, _, hc⟩ := hs
  simp [mainStep, hhnd, hk, hc]

theorem RunsTo.finishMain_eq (h : RunsTo f s t) (hcrit : s.main.crit = false) :
    finishMain s (f (enterCritical s)) = .next t := by
  simp [h.run, finishMain, leaveCritical_enterCritical (h.crit.trans hcrit)]

theorem RunsTo.congr (h : RunsTo g s t) (hf : f (enterCritical s) = g (enterCritical s)) : RunsTo f s t :=
  ⟨hf.trans h.run, h.crit⟩

theorem runsTo_retI2c (op : Byte) (r : I2CCode) (s : State) : RunsTo (retI2c op r) s (ret op (.i2c r) {} s) :=
  ⟨rfl, rfl⟩

/-- An update of the state that reads and writes nothing of the main context, and then the rest of the pseudocode. -/
theorem RunsTo.of_update {rest : State → Run} {update : State → State} (hrest : RunsTo rest (update s) t)
    (hcommutes : update (enterCritical s) = enterCritical (update s)) (hmain : (update s).main = s.main) :
    RunsTo (fun u => rest (update u)) s t :=
  ⟨by rw [hcommutes, hrest.run], by rw [hrest.crit, hmain]⟩

end

/-! ### The gate (42_i2c_master.md R328) -/

section
variable {op h : Byte} {modes : List Mode} {rest : State → Run} {s t : State}

theorem runsTo_i2cGate_badHandle (hh : h ≠ 0#8) :
    RunsTo (i2cGate op h modes rest) s (ret op (.i2c .badHandle) {} s) :=
  (runsTo_retI2c op .badHandle s).ite_pos hh

theorem runsTo_i2cGate_notInitialized (hh : h = 0#8) (hmode : s.i2cd.mode = .uninitialized) :
    RunsTo (i2cGate op h modes rest) s (ret op (.i2c .notInitialized) {} s) :=
  ((runsTo_retI2c op .notInitialized s).ite_pos hmode).ite_neg (not_not.2 hh)

theorem runsTo_i2cGate_badApiForMode (hh : h = 0#8) (hinit : s.i2cd.mode ≠ .uninitialized)
    (hmode : s.i2cd.mode ∉ modes) : RunsTo (i2cGate op h modes rest) s (ret op (.i2c .badApiForMode) {} s) :=
  (((runsTo_retI2c op .badApiForMode s).ite_neg hmode).ite_neg hinit).ite_neg (not_not.2 hh)

/-- An initialized device passes the gate in one of the operation's modes. -/
theorem i2cGate_open (hinit : s.i2cd.mode ≠ .uninitialized) (hmode : s.i2cd.mode ∈ modes) :
    i2cGate op 0#8 modes rest s = rest s := by
  simp [i2cGate, i2cHandle, hinit, hmode]

theorem RunsTo.i2cGate_open (hrest : RunsTo rest s t) (hinit : s.i2cd.mode ≠ .uninitialized)
    (hmode : s.i2cd.mode ∈ modes) : RunsTo (i2cGate op 0#8 modes rest) s t :=
  hrest.congr (Machine.i2cGate_open (s := enterCritical s) hinit hmode)

theorem mem_eitherMode (hinit : s.i2cd.mode ≠ .uninitialized) : s.i2cd.mode ∈ eitherMode := by
  cases hmode : s.i2cd.mode with
  | uninitialized => exact absurd hmode hinit
  | master => exact List.mem_cons_self
  | slave => exact List.mem_cons_of_mem _ List.mem_cons_self

theorem RunsTo.i2cGate_eitherMode (hrest : RunsTo rest s t) (hinit : s.i2cd.mode ≠ .uninitialized) :
    RunsTo (i2cGate op 0#8 eitherMode rest) s t :=
  hrest.i2cGate_open hinit (mem_eitherMode hinit)

theorem RunsTo.i2cGate_slave (hrest : RunsTo rest s t) (hmode : s.i2cd.mode = .slave) :
    RunsTo (i2cGate op 0#8 [.slave] rest) s t :=
  hrest.i2cGate_open (by simp [hmode]) (List.mem_singleton.2 hmode)

theorem RunsTo.ifComplete (hrest : RunsTo rest s t) (hidle : s.i2cd.complete = true) :
    RunsTo (ifComplete op rest) s t :=
  hrest.ite_pos hidle

theorem runsTo_ifComplete_busy (hactive : s.i2cd.complete = false) :
    RunsTo (ifComplete op rest) s (ret op (.i2c .busy) {} s) :=
  (runsTo_retI2c op .busy s).ite_neg (ne_true_of_eq_false hactive)

end

/-- Every I2C operation with a handle starts with the gate, in the modes that `i2cHandleOf` names. -/
theorem exec_eq_i2cGate_mainStep {i : Instr} {h : Byte} {modes : List Mode} (hi : i2cHandleOf i = some (h, modes)) :
    ∃ rest resume, ∀ s, exec i s = mainStep (i2cGate (opcodeOf i) h modes rest) resume s := by
  cases i with
  | i2cUnInit | i2cSetBlockingMode | i2cSetDmaMode | i2cSetTenBitAddressing => cases hi; exact ⟨_, _, fun _ => rfl⟩
  | i2cGetStatus | i2cRegisterCallback => cases hi; exact ⟨_, _, fun _ => rfl⟩
  | i2cSetSlaveAddress | i2cSetClockStretch | i2cGetGeneralCall => cases hi; exact ⟨_, _, fun _ => rfl⟩
  | i2cMasterTransmit | i2cMasterReceive => cases hi; exact ⟨_, _, fun _ => rfl⟩
  | i2cSlaveTransmit | i2cSlaveReceive => cases hi; exact ⟨_, _, fun _ => rfl⟩
  | _ => simp [i2cHandleOf] at hi

/-- Settles O34: the operation starts with the gate, which makes its checks in this order. -/
theorem i2cHandleGate : Obligations.I2cHandleGate := by
  intro i h modes s hi hs
  obtain ⟨rest, resume, hexec⟩ := exec_eq_i2cGate_mainStep hi
  rw [hexec]
  refine ⟨fun hh => ?_, fun hh hmode => ?_, fun hh hinit hmode => ?_⟩
  · exact (runsTo_i2cGate_badHandle hh).mainStep_start hs
  · exact (runsTo_i2cGate_notInitialized hh hmode).mainStep_start hs
  · exact (runsTo_i2cGate_badApiForMode hh hinit hmode).mainStep_start hs

/-! ### Draws and channels (44_i2c_dma.md R463, R464) -/

/-- A draw reads and writes nothing of the main context. -/
theorem drawBool_enterCritical (s : State) :
    drawBool (enterCritical s) = ((drawBool s).1, enterCritical (drawBool s).2) := by
  simp only [drawBool, drawNat, enterCritical_env]
  split <;> rfl

/-- A draw changes the environment only. -/
theorem drawBool_eq (s : State) : (drawBool s).2 = { s with env := (drawBool s).2.env } := by
  obtain ⟨env, hdrawn, _, _⟩ := drawBool_state s
  rw [hdrawn]

theorem channelsSet_enterCritical (b : Bool) (s : State) :
    channelsSet b (enterCritical s) = enterCritical (channelsSet b s) := by
  unfold channelsSet
  rw [apply_ite enterCritical]
  rfl

@[simp] theorem channelsSet_main (b : Bool) (s : State) : (channelsSet b s).main = s.main := by
  unfold channelsSet
  split
  · rfl
  · rfl

/-- Channels are taken and released for the mode the device is in, which a draw does not change. -/
theorem setChannels_own {s t : State} (b : Bool) (hmode : t.i2cd.mode = s.i2cd.mode) :
    { setChannels b (ownChannels s) t with i2cd := { (setChannels b (ownChannels s) t).i2cd with dmaOwned := b } } =
      channelsSet b t := by
  unfold ownChannels channelsSet
  rw [hmode]
  split
  · rfl
  · rfl

/-- R463, R464: one draw decides whether the channels of the mode are taken or released, or nothing more changes. -/
theorem ownership_eq (b : Bool) (s : State) :
    (if b then dmaTakeChannels s else dmaReleaseChannels s) =
      ((drawBool s).1, if (drawBool s).1 then channelsSet b (drawBool s).2 else (drawBool s).2) := by
  rw [← setChannels_own (s := s) b (by rw [drawBool_i2cd])]
  unfold dmaTakeChannels dmaReleaseChannels
  generalize drawBool s = d
  obtain ⟨ok, t⟩ := d
  cases b with
  | true => cases ok <;> rfl
  | false => cases ok <;> rfl

section
variable {f yes no : State → Run} {s t u : State}

/-- A draw decides between two ends of an operation. -/
theorem RunsTo.of_draw {d : Bool × State} (hyes : RunsTo yes d.2 t) (hno : RunsTo no d.2 u)
    (hf : f (enterCritical s) = if d.1 then yes (enterCritical d.2) else no (enterCritical d.2))
    (hmain : d.2.main = s.main) : RunsTo f s (if d.1 then t else u) := by
  cases hd : d.1 with
  | true => exact ⟨(hf.trans (if_pos hd)).trans hyes.run, hyes.crit.trans (by rw [hmain])⟩
  | false =>
    exact ⟨(hf.trans (if_neg (ne_true_of_eq_false hd))).trans hno.run, hno.crit.trans (by rw [hmain])⟩

/-- Taking or releasing the channels decides between two ends of an operation. -/
theorem RunsTo.of_ownership {b : Bool} (hyes : RunsTo yes (channelsSet b (drawBool s).2) t)
    (hno : RunsTo no (drawBool s).2 u) :
    RunsTo
      (fun v =>
        let r := if b then dmaTakeChannels v else dmaReleaseChannels v
        if r.1 then yes r.2 else no r.2)
      s (if (drawBool s).1 then t else u) := by
  have hset : RunsTo (fun v => yes (channelsSet b v)) (drawBool s).2 t :=
    hyes.of_update (channelsSet_enterCritical b _) (channelsSet_main b _)
  refine hset.of_draw hno ?_ (by rw [drawBool_eq])
  simp only [ownership_eq, drawBool_enterCritical]
  cases (drawBool s).1 <;> rfl

end

/-! ### I2C_MasterInit and I2C_SlaveInit (42_i2c_master.md R320, 43_i2c_slave.md R400) -/

/-- The semaphore of an initialization: drawn under `P_RTOS`, and there otherwise. -/
def semaphoreDraw (s : State) : Bool × State := if s.cfg.rtos then drawBool s else (true, s)

theorem semaphoreDraw_enterCritical (s : State) :
    semaphoreDraw (enterCritical s) = ((semaphoreDraw s).1, enterCritical (semaphoreDraw s).2) := by
  unfold semaphoreDraw
  rw [enterCritical_cfg, drawBool_enterCritical]
  split
  · rfl
  · rfl

/-- The semaphore changes the environment only. -/
theorem semaphoreDraw_eq (s : State) : (semaphoreDraw s).2 = { s with env := (semaphoreDraw s).2.env } := by
  unfold semaphoreDraw
  split
  · exact drawBool_eq s
  · rfl

section
variable {op id : Byte} {mode : Mode} {setup : State → State} {s : State}

theorem runsTo_i2cInit_badInstance (hid : id ≠ 0#8) :
    RunsTo (i2cInit op id mode setup) s (ret op (.i2c .badInstance) {} s) :=
  (runsTo_retI2c op .badInstance s).ite_pos hid

theorem runsTo_i2cInit_alreadyInitialized (hmode : s.i2cd.mode ≠ .uninitialized) :
    RunsTo (i2cInit op 0#8 mode setup) s (ret op (.i2c .alreadyInitialized) {} s) :=
  ((runsTo_retI2c op .alreadyInitialized s).ite_pos hmode).ite_neg (not_not.2 rfl)

/-- The success of an initialization: its driver, and the setup of its mode. -/
def initSuccess (op : Byte) (mode : Mode) (setup : State → State) (s : State) : State :=
  ret op (.i2c .success) { handle := some 0#8 } (setup { s with i2cd := initializedDriver mode })

theorem i2cInit_open (hmode : s.i2cd.mode = .uninitialized) :
    i2cInit op 0#8 mode setup s =
      if (semaphoreDraw s).1 then .ok (initSuccess op mode setup (semaphoreDraw s).2)
      else retI2c op .semaphoreError (semaphoreDraw s).2 :=
  (if_neg (not_not.2 rfl)).trans (if_neg (not_not.2 hmode))

/-- Past its checks an initialization sets up its mode where the semaphore is there. -/
theorem runsTo_i2cInit_open (hmode : s.i2cd.mode = .uninitialized)
    (hsetup : ∀ u, initSuccess op mode setup (enterCritical u) = enterCritical (initSuccess op mode setup u))
    (hmain : ∀ u, (initSuccess op mode setup u).main.crit = u.main.crit) :
    RunsTo (i2cInit op 0#8 mode setup) s
      (if (semaphoreDraw s).1 then initSuccess op mode setup (semaphoreDraw s).2
      else ret op (.i2c .semaphoreError) {} (semaphoreDraw s).2) := by
  have hsuccess : RunsTo (fun u => .ok (initSuccess op mode setup u)) (semaphoreDraw s).2
      (initSuccess op mode setup (semaphoreDraw s).2) :=
    ⟨congrArg Except.ok (hsetup _), hmain _⟩
  refine hsuccess.of_draw (runsTo_retI2c op .semaphoreError _) ?_ (by rw [semaphoreDraw_eq])
  rw [i2cInit_open (s := enterCritical s) hmode, semaphoreDraw_enterCritical]

end

/-- Settles O36: the checks, and then the setup of the mode on the state that the semaphore's draw leaves. -/
theorem i2cInits : Obligations.I2cInits := by
  intro s hs
  refine ⟨fun id hid => ⟨?_, ?_⟩, fun hmode => ⟨?_, ?_⟩, fun hmode => ?_⟩
  · exact (runsTo_i2cInit_badInstance hid).mainStep_start hs
  · exact (runsTo_i2cInit_badInstance hid).mainStep_start hs
  · exact (runsTo_i2cInit_alreadyInitialized hmode).mainStep_start hs
  · exact (runsTo_i2cInit_alreadyInitialized hmode).mainStep_start hs
  · have hmaster := runsTo_i2cInit_open (op := 0x40#8) (mode := .master) (setup := masterInitSetup) hmode
      (fun _ => rfl) (fun _ => rfl)
    have hslave := runsTo_i2cInit_open (op := 0x41#8) (mode := .slave) (setup := slaveInitSetup) hmode
      (fun _ => rfl) (fun _ => rfl)
    rw [semaphoreDraw_eq] at hmaster hslave
    intro d
    have hd : d.2 = { s with env := (semaphoreDraw s).2.env } := semaphoreDraw_eq s
    rw [hd]
    exact ⟨hmaster.mainStep_start hs, hslave.mainStep_start hs⟩

/-! ### I2C_UnInit (42_i2c_master.md R322) -/

/-- The state of the block after I2C_UnInit, its channels already released. -/
def unInitialized (s : State) : State :=
  { s with
    m := { s.m with en := s.cfg.mctlPorEn, ie := MasterIe.none, dmaTx := false, dmaRx := false }
    sl := { s.sl with en := false, ie := SlaveIe.none, dmaTx := false, dmaRx := false, clockHold := false }
    nvic := { s.nvic with i2cm := false, i2cs := false }
    i2cd := I2cDriver.reset }

theorem runsTo_unInitFinish (s : State) :
    RunsTo unInitFinish s (ret 0x42#8 (.i2c .success) {} (unInitialized s)) :=
  ⟨rfl, rfl⟩

/-- Releasing the channels changes nothing of the two sides and of the parameters. -/
theorem unInitialized_channelsSet (s : State) :
    unInitialized (channelsSet false (drawBool s).2) =
      { channelsSet false (drawBool s).2 with
        m := { s.m with en := s.cfg.mctlPorEn, ie := MasterIe.none, dmaTx := false, dmaRx := false }
        sl := { s.sl with en := false, ie := SlaveIe.none, dmaTx := false, dmaRx := false, clockHold := false }
        nvic := { (channelsSet false (drawBool s).2).nvic with i2cm := false, i2cs := false }
        i2cd := I2cDriver.reset } := by
  rw [drawBool_eq]
  unfold channelsSet
  split
  · rfl
  · rfl

/-- Settles O37: the gate, the check for activity, and the two ends. -/
theorem i2cUnInit : Obligations.I2cUnInit := by
  intro s hs hmode
  have hexec : ∀ t, RunsTo unInitBody s t → exec (.i2cUnInit 0#8) s = .next t := fun t hbody =>
    (hbody.i2cGate_eitherMode hmode).mainStep_start hs
  refine ⟨fun hactive => ?_, fun hm hsl hcomplete howned => ?_, fun hm hsl hcomplete howned => ?_⟩
  · refine hexec _ ((runsTo_retI2c 0x42#8 .busy s).ite_pos ?_)
    simpa [or_assoc] using hactive
  · refine hexec _ (.ite_neg (.ite_neg (runsTo_unInitFinish s) ?_) ?_)
    · simp [howned]
    · simp [hm, hsl, hcomplete]
  · have hfinish := runsTo_unInitFinish (channelsSet false (drawBool s).2)
    rw [unInitialized_channelsSet] at hfinish
    refine hexec _ (.ite_neg (.ite_pos (hfinish.of_ownership (runsTo_retI2c 0x42#8 .dmaError _)) ?_) ?_)
    · simp [howned]
    · simp [hm, hsl, hcomplete]

/-! ### Configuration (42_i2c_master.md R323 to R325, 43_i2c_slave.md R401) -/

/-- An update of the driver and the return of a success. -/
theorem runsTo_updateDriver (op : Byte) (out : I2cDriver → Outputs) (update : I2cDriver → I2cDriver) (s : State) :
    RunsTo (fun u => .ok (ret op (.i2c .success) (out u.i2cd) { u with i2cd := update u.i2cd })) s
      (ret op (.i2c .success) (out s.i2cd) { s with i2cd := update s.i2cd }) :=
  ⟨rfl, rfl⟩

theorem addressTooLarge_iff {tenBit : Bool} {v : U16} :
    addressTooLarge tenBit v = true ↔ (tenBit = false ∧ 0x80 ≤ v.toNat) ∨ 0x400 ≤ v.toNat := by
  simp [addressTooLarge]

theorem runsTo_setSlaveAddressBody (v : U16) (s : State) :
    RunsTo (setSlaveAddressBody v) s
      (if (s.i2cd.tenBit = false ∧ 0x80 ≤ v.toNat) ∨ 0x400 ≤ v.toNat then ret 0x45#8 (.i2c .badParam) {} s
      else ret 0x45#8 (.i2c .success) {} { s with i2cd := { s.i2cd with slaveId := v.setWidth 10 } }) := by
  split
  · next hlarge => exact (runsTo_retI2c 0x45#8 .badParam s).ite_pos (addressTooLarge_iff.2 hlarge)
  · next hfits =>
    exact (runsTo_updateDriver 0x45#8 (fun _ => {}) (fun d => { d with slaveId := v.setWidth 10 }) s).ite_neg
      (mt addressTooLarge_iff.1 hfits)

/-- Settles O38: the gate, the check for an active call, and the body of each setter. -/
theorem i2cSetters : Obligations.I2cSetters := by
  intro s hs hmode
  refine ⟨fun hactive => ⟨fun b => ⟨?_, ?_, ?_⟩, fun hslave v => ?_⟩,
    fun hidle => ⟨fun hdma => ?_, fun b hpio => ?_, fun b => ?_, fun hslave v => ?_⟩⟩
  · exact ((runsTo_ifComplete_busy hactive).i2cGate_eitherMode hmode).mainStep_start hs
  · exact ((runsTo_ifComplete_busy hactive).i2cGate_eitherMode hmode).mainStep_start hs
  · exact ((runsTo_ifComplete_busy hactive).i2cGate_eitherMode hmode).mainStep_start hs
  · exact ((runsTo_ifComplete_busy hactive).i2cGate_slave hslave).mainStep_start hs
  · have hbody : RunsTo (setBlockingBody true) s (ret 0x43#8 (.i2c .badModeCombination) {} s) :=
      (runsTo_retI2c _ _ s).ite_pos hdma
    exact ((hbody.ifComplete hidle).i2cGate_eitherMode hmode).mainStep_start hs
  · have hallowed : ¬(b && s.i2cd.dma) = true := by
      rcases hpio with rfl | hpio
      · exact Bool.false_ne_true
      · simp [hpio]
    have hbody : RunsTo (setBlockingBody b) s
        (ret 0x43#8 (.i2c .success) {} { s with i2cd := { s.i2cd with blocking := b } }) :=
      (runsTo_updateDriver _ (fun _ => {}) (fun d => { d with blocking := b }) s).ite_neg hallowed
    exact ((hbody.ifComplete hidle).i2cGate_eitherMode hmode).mainStep_start hs
  · have hbody := runsTo_updateDriver 0x46#8 (fun _ => {}) (fun d => { d with tenBit := b }) s
    exact ((hbody.ifComplete hidle).i2cGate_eitherMode hmode).mainStep_start hs
  · exact (((runsTo_setSlaveAddressBody v s).ifComplete hidle).i2cGate_slave hslave).mainStep_start hs

/-! ### I2C_SetDmaMode (42_i2c_master.md R324) -/

/-- Settles O39: the two checks, and then the draw that takes or releases the channels. -/
theorem i2cSetDmaMode : Obligations.I2cSetDmaMode := by
  intro b s hs hmode hidle
  have hexec : ∀ t, RunsTo (setDmaBody b) s t → exec (.i2cSetDmaMode 0#8 b) s = .next t := fun t hbody =>
    ((hbody.ifComplete hidle).i2cGate_eitherMode hmode).mainStep_start hs
  have hallowed : b = false ∨ s.i2cd.blocking = false → ¬(b && s.i2cd.blocking) = true := by
    rintro (rfl | hpolling)
    · exact Bool.false_ne_true
    · simp [hpolling]
  refine ⟨fun hon hblocking => ?_, fun hpolling hsame => ?_, fun hpolling hchange => ?_⟩
  · exact hexec _ ((runsTo_retI2c 0x44#8 .badModeCombination s).ite_pos (by simp [hon, hblocking]))
  · exact hexec _ (((runsTo_retI2c 0x44#8 .success s).ite_pos hsame).ite_neg (hallowed hpolling))
  · have hset := runsTo_updateDriver 0x44#8 (fun _ => {})
      (fun d => { d with dma := b, engine := if b then .dma else .pio }) (channelsSet b (drawBool s).2)
    exact hexec _ (.ite_neg (.ite_neg (hset.of_ownership (runsTo_retI2c _ _ _)) hchange) (hallowed hpolling))

/-! ### Status (42_i2c_master.md R326, R327, 43_i2c_slave.md R402, R403) -/

/-- Settles O40: past the gate each is one update of the driver and a return. -/
theorem i2cStatusOperations : Obligations.I2cStatusOperations := by
  intro s hs hmode
  refine ⟨fun cb => ?_, ?_, fun hslave => ⟨fun b => ?_, ?_⟩⟩
  · have hbody := runsTo_updateDriver 0x4E#8 (fun _ => {}) (fun d => { d with cb := callbackOperand cb }) s
    exact (hbody.i2cGate_eitherMode hmode).mainStep_start hs
  · have hbody := runsTo_updateDriver 0x4D#8
      (fun d =>
        { complete := some d.complete, result := some d.result, txRem := some d.txRem, rxRem := some d.rxRem
          rxFilled := some d.rxFilled }) id s
    exact (hbody.i2cGate_eitherMode hmode).mainStep_start hs
  · have hbody := runsTo_updateDriver 0x47#8 (fun _ => {}) (fun d => { d with clockStretch := b }) s
    exact (hbody.i2cGate_slave hslave).mainStep_start hs
  · have hbody := runsTo_updateDriver 0x4C#8 (fun d => { pending := some d.gcPending, cmd := some d.gcCmd })
      (fun d => { d with gcPending := false }) s
    exact (hbody.i2cGate_slave hslave).mainStep_start hs

end Sys2Proof.Machine

/-! What the procedures that the master transfers and the master handler share do (42_i2c_master.md R329 to R340), and
the start of a DMA transfer (44_i2c_dma.md R460). -/

namespace Sys2Proof.Machine

open Sys2Proof.Cert

/-! ### The first address register (42_i2c_master.md R340) -/

section
variable {b : Byte} {s : State}

theorem writeAdr1_of_busy (hbusy : s.m.busy = true) :
    writeAdr1 b s = { s with m := { s.m with adr1 := b, rsQueued := true } } := by
  simp [writeAdr1, hbusy]

theorem writeAdr1_of_disabled (hidle : s.m.busy = false) (hen : s.m.en = false) :
    writeAdr1 b s = { s with m := { s.m with adr1 := b } } := by
  simp [writeAdr1, hidle, hen]

theorem writeAdr1_of_idle (hidle : s.m.busy = false) (hen : s.m.en = true) :
    writeAdr1 b s =
      { s with
        m :=
          { s.m with
            adr1 := b, busy := true, dir := directionOf b, nrx := 0, busHeld := false, phase := .addrWait }
        trace := s.trace ++ [startOf s.m] } := by
  simp [writeAdr1, hidle, hen, emit, startOf]

end

/-- Settles O48: the three cases of the write. -/
theorem writeAdr1_cases : Obligations.WriteAdr1 := fun _ _ =>
  ⟨writeAdr1_of_busy, writeAdr1_of_disabled, writeAdr1_of_idle⟩

/-! ### The launch (42_i2c_master.md R329) -/

/-- An address byte ends in its read/write bit, which is what the write of the register looks at. -/
theorem directionOf_append_rwBit {w : Nat} {x : BitVec w} {d : Dir} {b : Byte}
    (hb : b.getLsbD 0 = (x ++ rwBit d).getLsbD 0) : directionOf b = d := by
  rw [directionOf, hb, BitVec.getLsbD_append]
  cases d <;> rfl

@[simp] theorem directionOf_address7 (sid : U16) (d : Dir) : directionOf (address7 sid d) = d :=
  directionOf_append_rwBit (x := sid.extractLsb' 0 7) rfl

@[simp] theorem directionOf_address10First (sid : U16) (d : Dir) : directionOf (address10First sid d) = d :=
  directionOf_append_rwBit (x := 0b11110#5 ++ sid.extractLsb' 8 2) rfl

/-- A launch on the enabled and idle side starts the transfer. -/
theorem launch_of_idle {sid : U16} {d : Dir} {s : State} (hidle : s.m.busy = false) (hen : s.m.en = true) :
    launch sid d s = launchOn sid d s := by
  unfold launch launchOn launched
  cases htenBit : s.i2cd.tenBit with
  | true =>
    have hwrite := writeAdr1_of_idle (b := address10First sid d)
      (s := { s with m := { s.m with adr2 := address10Second sid } }) hidle hen
    rw [directionOf_address10First] at hwrite
    exact hwrite
  | false =>
    have hwrite := writeAdr1_of_idle (b := address7 sid d) hidle hen
    rw [directionOf_address7] at hwrite
    exact hwrite

/-! ### The pumps (42_i2c_master.md R333, R334) -/

section
variable {s : State}

theorem pushMTx_of_room {b : Byte} (hroom : s.m.txf.length < s.cfg.fifoDepth) :
    pushMTx b s = .ok { s with m := { s.m with txf := s.m.txf ++ [b] } } := by
  simp [pushMTx, pushFifo, hroom]

theorem pushMTx_of_full {b : Byte} (hfull : s.cfg.fifoDepth ≤ s.m.txf.length) :
    pushMTx b s = .error (.fault .fifoOverflow) := by
  simp [pushMTx, pushFifo, Nat.not_lt.2 hfull]

theorem memRead_of_declared {a : Addr} (hdecl : declared s a = true) :
    memRead s a = .ok (Memory.read s.mem a.toNat) :=
  if_pos hdecl

theorem memRead_of_undeclared {a : Addr} (hdecl : declared s a = false) : memRead s a = .error .stuck :=
  if_neg (ne_true_of_eq_false hdecl)

/-- R122, R333: a data-address byte, the most significant of those left, goes out before the buffer. -/
theorem pumpTx_address (hdaw : 0 < s.i2cd.daw) (hroom : s.m.txf.length < s.cfg.fifoDepth) :
    pumpTx s =
      .ok { s with
        m := { s.m with txf := s.m.txf ++ [s.i2cd.dataAddr.extractLsb' (8 * (s.i2cd.daw - 1)) 8] }
        i2cd := { s.i2cd with daw := s.i2cd.daw - 1 } } := by
  rw [pumpTx, if_pos hdaw, pushMTx_of_room hroom]
  rfl

theorem pumpTx_buffer (hdaw : s.i2cd.daw = 0) (hrem : 0 < s.i2cd.txRem) (hroom : s.m.txf.length < s.cfg.fifoDepth)
    (hdecl : declared s s.i2cd.txPtr = true) :
    pumpTx s =
      .ok { s with
        m := { s.m with txf := s.m.txf ++ [Memory.read s.mem s.i2cd.txPtr.toNat] }
        i2cd := { s.i2cd with txPtr := s.i2cd.txPtr + 1#32, txRem := s.i2cd.txRem - 1 } } := by
  rw [pumpTx, if_neg (Nat.not_lt.2 hdaw.le), if_pos hrem, memRead_of_declared hdecl]
  change (pushMTx _ s >>= _) = _
  rw [pushMTx_of_room hroom]
  rfl

theorem pumpTx_undeclared (hdaw : s.i2cd.daw = 0) (hrem : 0 < s.i2cd.txRem)
    (hdecl : declared s s.i2cd.txPtr = false) : pumpTx s = .error .stuck := by
  rw [pumpTx, if_neg (Nat.not_lt.2 hdaw.le), if_pos hrem, memRead_of_undeclared hdecl]
  rfl

/-- R116: either byte faults at a full FIFO. -/
theorem pumpTx_full
    (hbyte : 0 < s.i2cd.daw ∨ 0 < s.i2cd.txRem ∧ declared s s.i2cd.txPtr = true)
    (hfull : s.cfg.fifoDepth ≤ s.m.txf.length) : pumpTx s = .error (.fault .fifoOverflow) := by
  by_cases hdaw : 0 < s.i2cd.daw
  · rw [pumpTx, if_pos hdaw, pushMTx_of_full hfull]
    rfl
  · obtain ⟨hrem, hdecl⟩ := hbyte.resolve_left hdaw
    rw [pumpTx, if_neg hdaw, if_pos hrem, memRead_of_declared hdecl]
    change (pushMTx _ s >>= _) = _
    rw [pushMTx_of_full hfull]
    rfl

theorem pumpTx_end (hdaw : s.i2cd.daw = 0) (hrem : s.i2cd.txRem = 0) :
    pumpTx s = .ok (signalCompletion .success { s with m := { s.m with ie := { s.m.ie with txreq := false } } }) := by
  rw [pumpTx, if_neg (Nat.not_lt.2 hdaw.le), if_neg (Nat.not_lt.2 hrem.le)]

end

/-! ### The start of a DMA transfer (44_i2c_dma.md R460) -/

section
variable (c : Chan) (buf : Addr) (size : Nat) (s : State)

/-- The scheduler's fields and the channel before the first chunk is scheduled. -/
def dmaArm (c : Chan) (buf : Addr) (size : Nat) (s : State) : State :=
  let t := { s with i2cd := { s.i2cd with curCh := c, nextPtr := buf, unsched := size, nextSlot := .pri } }
  t.setChannel c { t.dma.get c with cur := .pri, done := false }

/-- The channel's enable. -/
def dmaEnable (c : Chan) (s : State) : State := s.setChannel c { s.dma.get c with enabled := true }

/-- R460 in its parts: two chunks are scheduled before the channel is enabled. -/
theorem dmaStart_eq :
    dmaStart c buf size s =
      dmaSyncRem c (dmaEnable c (scheduleNext (scheduleNext (dmaArm c buf size s)))) := rfl

theorem scheduleNext_enterCritical : scheduleNext (enterCritical s) = enterCritical (scheduleNext s) := by
  unfold scheduleNext
  dsimp only
  rw [apply_ite enterCritical]
  rfl

theorem dmaSyncRem_enterCritical : dmaSyncRem c (enterCritical s) = enterCritical (dmaSyncRem c s) := by
  unfold dmaSyncRem
  rw [apply_ite enterCritical]
  rfl

theorem dmaStart_enterCritical : dmaStart c buf size (enterCritical s) = enterCritical (dmaStart c buf size s) := by
  have harm : dmaArm c buf size (enterCritical s) = enterCritical (dmaArm c buf size s) := rfl
  have henable : ∀ t, dmaEnable c (enterCritical t) = enterCritical (dmaEnable c t) := fun _ => rfl
  simp only [dmaStart_eq, harm, scheduleNext_enterCritical, henable, dmaSyncRem_enterCritical]

/-- The scheduler writes nothing outside the channel and its own fields of the driver. -/
theorem scheduleNext_frame :
    (scheduleNext s).m = s.m ∧ (scheduleNext s).main = s.main ∧ (scheduleNext s).i2cd.sem = s.i2cd.sem := by
  unfold scheduleNext
  dsimp only
  split
  · exact ⟨rfl, rfl, rfl⟩
  · exact ⟨rfl, rfl, rfl⟩

/-- Nor does the start of a DMA transfer. -/
theorem dmaStart_frame :
    (dmaStart c buf size s).m = s.m ∧ (dmaStart c buf size s).main = s.main ∧
      (dmaStart c buf size s).i2cd.sem = s.i2cd.sem := by
  obtain ⟨hm, hmain, hsem⟩ := scheduleNext_frame (dmaArm c buf size s)
  obtain ⟨hm', hmain', hsem'⟩ := scheduleNext_frame (scheduleNext (dmaArm c buf size s))
  rw [dmaStart_eq]
  unfold dmaSyncRem
  split
  · exact ⟨hm'.trans hm, hmain'.trans hmain, hsem'.trans hsem⟩
  · exact ⟨hm'.trans hm, hmain'.trans hmain, hsem'.trans hsem⟩

end

/-- The start of the shared master channel for a direction (44_i2c_dma.md R468). -/
def channelStarted (isRx : Bool) (buf : Addr) (size : U16) (s : State) : State :=
  dmaStart .m buf size.toNat { s with i2cd := { s.i2cd with sharedIsRx := isRx } }

theorem channelStarted_enterCritical (isRx : Bool) (buf : Addr) (size : U16) (s : State) :
    channelStarted isRx buf size (enterCritical s) = enterCritical (channelStarted isRx buf size s) :=
  dmaStart_enterCritical .m buf size.toNat { s with i2cd := { s.i2cd with sharedIsRx := isRx } }

theorem channelStarted_frame (isRx : Bool) (buf : Addr) (size : U16) (s : State) :
    (channelStarted isRx buf size s).m = s.m ∧ (channelStarted isRx buf size s).main = s.main ∧
      (channelStarted isRx buf size s).i2cd.sem = s.i2cd.sem :=
  dmaStart_frame .m buf size.toNat { s with i2cd := { s.i2cd with sharedIsRx := isRx } }

end Sys2Proof.Machine

/-! The master transfers (42_i2c_master.md R330, R331): their checks, their waits, and the transfers they launch. -/

namespace Sys2Proof.Machine

open Sys2Proof.Cert

/-! ### The checks (42_i2c_master.md R336) -/

section
variable {op : Byte} {sid : U16} {daw : Byte} {size : U16} {rest : State → Run} {s : State}

theorem checkMaster_badParam
    (hbad : 4 < daw.toNat ∨ (s.i2cd.tenBit = false ∧ 0x80 ≤ sid.toNat) ∨ 0x400 ≤ sid.toNat) :
    checkMaster op sid daw size rest s = retI2c op .badParam s := by
  by_cases hdaw : maxDataAddrWidth < daw.toNat
  · exact if_pos hdaw
  · rw [checkMaster, if_neg hdaw, if_pos (addressTooLarge_iff.2 (hbad.resolve_left hdaw))]

theorem checkMaster_zeroLength (hdaw : daw.toNat ≤ maxDataAddrWidth)
    (haddr : addressTooLarge s.i2cd.tenBit sid = false) (hsize : size = 0#16) :
    checkMaster op sid daw size rest s = .error (.refuse .zeroLengthTransfer) := by
  rw [checkMaster, if_neg hdaw.not_gt, haddr, if_neg Bool.false_ne_true, if_pos hsize]

theorem checkMaster_lengthOpen (hopen : MasterOpen sid daw size s) :
    checkMaster op sid daw size rest s =
      if s.i2cd.engine = .dma ∧ 0 < daw.toNat then .error (.refuse .dmaWithDataAddress) else rest s := by
  obtain ⟨_, hdaw, haddr, hsize⟩ := hopen
  have hwidth : ¬maxDataAddrWidth < daw.toNat := hdaw.not_gt
  rw [checkMaster, if_neg hwidth, haddr, if_neg Bool.false_ne_true, if_neg hsize]

/-- The gate of a master transfer is passed in master mode. -/
theorem i2cGate_master (hmode : s.i2cd.mode = .master) : i2cGate op 0#8 [.master] rest s = rest s :=
  i2cGate_open (by simp [hmode]) (List.mem_singleton.2 hmode)

/-- The gate and the checks of a master transfer, passed. -/
theorem masterChecks_open (hopen : MasterOpen sid daw size s) (hengine : s.i2cd.engine = .pio ∨ daw.toNat = 0) :
    i2cGate op 0#8 [.master] (checkMaster op sid daw size rest) s = rest s := by
  have ⟨hmode, _, _, _⟩ := hopen
  rw [i2cGate_master hmode, checkMaster_lengthOpen hopen, if_neg]
  rintro ⟨hdma, hdaw⟩
  rcases hengine with hpio | hdaw'
  · exact absurd (hpio.symm.trans hdma) (by decide)
  · exact hdaw.ne' hdaw'

end

section
variable {start : State → Run} {resume : Point → State → Run} {s : State} {c : Await} {p : Point} {r : Run}

/-- As `mainStep_reaches`, also where the pseudocode does not run to its end. -/
theorem mainStep_of_reaches (hs : Reaches c p s) (hstart : start (enterCritical s) = r)
    (hresume : resume p (enterCritical s) = r) : mainStep start resume s = finishMain s r := by
  obtain ⟨hhnd, hcrit, hk | hk, hc⟩ := hs
  · rw [mainStep_of_atStart ⟨hhnd, hk, hcrit⟩, hstart]
  · rw [mainStep_of_resumes ⟨hhnd, hk, hcrit, hc⟩, hresume]

/-- A wait that is met is no wait. -/
theorem awaitThen_of_holds {rest : State → Run} (hc : c.holds s = true) :
    awaitThen c p rest (enterCritical s) = rest (enterCritical s) :=
  if_pos ((Await.holds_enterCritical c s).trans hc)

theorem RunsTo.bind {f g : State → Run} {s t u : State} (hf : RunsTo f s t) (hg : RunsTo g t u) :
    RunsTo (fun v => do let w ← f v; g w) s u :=
  ⟨(congrArg (· >>= g) hf.run).trans hg.run, hg.crit.trans hf.crit⟩

end

/-! ### The transfers from their start and from their waits -/

section
variable {sid : U16} {daddr : U32} {daw : Byte} {buf : Addr} {size : U16} {rs : Bool} {s : State}

theorem exec_masterTransmit_atStart (hs : AtStart s) (hmode : s.i2cd.mode = .master) :
    exec (.i2cMasterTransmit 0#8 sid daddr daw buf size rs) s =
      finishMain s
        (checkMaster 0x48#8 sid daw size (awaitThen .masterIdle .idle (transmitIdle sid daddr daw buf size rs))
          (enterCritical s)) :=
  (mainStep_of_atStart hs).trans (congrArg _ (i2cGate_master (s := enterCritical s) hmode))

theorem exec_masterReceive_atStart (hs : AtStart s) (hmode : s.i2cd.mode = .master) :
    exec (.i2cMasterReceive 0#8 sid daddr daw buf size rs) s =
      finishMain s
        (checkMaster 0x49#8 sid daw size (receiveStart sid daddr daw buf size rs) (enterCritical s)) :=
  (mainStep_of_atStart hs).trans (congrArg _ (i2cGate_master (s := enterCritical s) hmode))

/-- R330 from the point where the controller is idle, which it may be at once. -/
theorem exec_masterTransmit_idle (hs : Reaches .masterIdle .idle s) (hopen : MasterOpen sid daw size s)
    (hengine : s.i2cd.engine = .pio ∨ daw.toNat = 0) :
    exec (.i2cMasterTransmit 0#8 sid daddr daw buf size rs) s =
      finishMain s (transmitIdle sid daddr daw buf size rs (enterCritical s)) := by
  have ⟨_, _, _, hmet⟩ := hs
  refine mainStep_of_reaches hs ?_ rfl
  rw [masterChecks_open (s := enterCritical s) hopen hengine, awaitThen_of_holds hmet]

/-- R331 with no data address, from the point where the controller is idle. -/
theorem exec_masterReceive_idle (hs : Reaches .masterIdle .idle s) (hopen : MasterOpen sid daw size s)
    (hdaw : daw.toNat = 0) :
    exec (.i2cMasterReceive 0#8 sid daddr daw buf size rs) s =
      finishMain s (receiveIdle sid buf size rs (enterCritical s)) := by
  have ⟨_, _, _, hmet⟩ := hs
  have hnone : ¬0 < daw.toNat := Nat.not_lt.2 hdaw.le
  refine mainStep_of_reaches hs ?_ ?_
  · rw [masterChecks_open (s := enterCritical s) hopen (.inr hdaw), receiveStart, if_neg hnone, receivePhase,
      awaitThen_of_holds hmet]
  · change receiveIdle sid buf size (readRepeat daw rs) _ = _
    rw [readRepeat, if_neg hnone]

/-- R331 with a data address, from the point where the controller is idle. -/
theorem exec_masterReceive_subIdle (hs : Reaches .masterIdle .subIdle s) (hopen : MasterOpen sid daw size s)
    (hpio : s.i2cd.engine = .pio) (hdaw : 0 < daw.toNat) :
    exec (.i2cMasterReceive 0#8 sid daddr daw buf size rs) s =
      finishMain s (subTransaction sid daddr daw buf size rs (enterCritical s)) := by
  have ⟨_, _, _, hmet⟩ := hs
  refine mainStep_of_reaches hs ?_ rfl
  rw [masterChecks_open (s := enterCritical s) hopen (.inl hpio), receiveStart, if_pos hdaw, awaitThen_of_holds hmet]

/-- R331: a receive waits for the idle controller before its sub-transaction or before its read. -/
theorem runsTo_receiveStart_busy (hunmet : Await.masterIdle.holds s = false) :
    RunsTo (receiveStart sid daddr daw buf size rs) s
      (s.holdAt .masterIdle (if 0 < daw.toNat then .subIdle else .idle)) := by
  by_cases hdaw : 0 < daw.toNat
  · rw [if_pos hdaw]
    exact (runsTo_awaitThen_unmet hunmet).congr (if_pos hdaw)
  · rw [if_neg hdaw]
    exact (runsTo_awaitThen_unmet hunmet).congr (if_neg hdaw)

end

/-- Settles O41: the checks are the first thing past the gate, and only a passed check comes to the wait. -/
theorem masterTransferChecks : Obligations.MasterTransferChecks := by
  intro sid daddr daw buf size rs s hs hmode
  have ⟨_, _, hcrit⟩ := hs
  have hrefused : ∀ {reason : Refusal},
      (∀ op rest, checkMaster op sid daw size rest (enterCritical s) = .error (.refuse reason)) →
      exec (.i2cMasterTransmit 0#8 sid daddr daw buf size rs) s = .next { s with refused := some reason } ∧
      exec (.i2cMasterReceive 0#8 sid daddr daw buf size rs) s = .next { s with refused := some reason } := by
    intro reason hcheck
    rw [exec_masterTransmit_atStart hs hmode, exec_masterReceive_atStart hs hmode, hcheck, hcheck]
    exact ⟨rfl, rfl⟩
  refine ⟨fun hbad => ?_, fun hdaw haddr hsize => ?_, fun hopen hdma hdaw => ?_, fun hopen hengine hbusy => ?_⟩
  · rw [exec_masterTransmit_atStart hs hmode, exec_masterReceive_atStart hs hmode,
      checkMaster_badParam (s := enterCritical s) hbad, checkMaster_badParam (s := enterCritical s) hbad]
    exact ⟨(runsTo_retI2c _ _ s).finishMain_eq hcrit, (runsTo_retI2c _ _ s).finishMain_eq hcrit⟩
  · exact hrefused fun _ _ => checkMaster_zeroLength (s := enterCritical s) hdaw haddr hsize
  · exact hrefused fun _ _ => (checkMaster_lengthOpen (s := enterCritical s) hopen).trans (if_pos ⟨hdma, hdaw⟩)
  · have hunmet : Await.masterIdle.holds s = false := by simp [Await.holds, hbusy]
    have hpass : ∀ {op : Byte} {rest : State → Run},
        i2cGate op 0#8 [.master] (checkMaster op sid daw size rest) (enterCritical s) = rest (enterCritical s) :=
      masterChecks_open (s := enterCritical s) hopen hengine
    exact ⟨((runsTo_awaitThen_unmet hunmet).congr hpass).mainStep_start hs,
      ((runsTo_receiveStart_busy hunmet).congr hpass).mainStep_start hs⟩

/-! ### The end of a transfer (42_i2c_master.md R330, R331, 60_exceptions.md R547) -/

section
variable {op : Byte} {sid : U16} {d : Dir} {s : State}

theorem signalled_unmet (hsem : s.i2cd.sem = false) : Await.signalled.holds s = false := hsem

theorem runsTo_transferEnd (hsem : s.i2cd.sem = false) : RunsTo (transferEnd op) s (launchedCall op s) := by
  unfold launchedCall
  split
  · next hblocking => exact (runsTo_awaitThen_unmet (signalled_unmet hsem)).ite_pos hblocking
  · next hpolling => exact (runsTo_retI2c op .success s).ite_neg hpolling

/-- A launch of a transfer that is set up, and then the rest of the pseudocode. -/
theorem RunsTo.of_launch {rest : State → Run} {t : State} (hrest : RunsTo rest (launchOn sid d s) t)
    (hidle : s.m.busy = false) (hen : s.m.en = true) : RunsTo (fun u => rest (launch sid d u)) s t :=
  RunsTo.congr (hrest.of_update rfl rfl) (congrArg rest (launch_of_idle (s := enterCritical s) hidle hen))

theorem runsTo_launchEnd (hidle : s.m.busy = false) (hen : s.m.en = true) (hsem : s.i2cd.sem = false) :
    RunsTo (fun u => transferEnd op (launch sid d u)) s (launchedCall op (launchOn sid d s)) :=
  RunsTo.of_launch (runsTo_transferEnd hsem) hidle hen

theorem runsTo_transferReturn (op : Byte) (s : State) :
    RunsTo (transferReturn op) s (ret op (.i2c (codeOfResult s.i2cd.result)) {} s) :=
  ⟨rfl, rfl⟩

/-- The return of a blocking call once it is signalled. -/
theorem runsTo_waitedReturn (op : Byte) (s : State) :
    RunsTo (fun u => transferReturn op (endWait u)) s (ret op (.i2c (codeOfResult s.i2cd.result)) {} (waited s)) :=
  (runsTo_transferReturn op (waited s)).of_update rfl rfl

end

/-! ### I2C_MasterTransmit (42_i2c_master.md R330) -/

/-- TXREQ enabled. -/
def txEnabled (s : State) : State := { s with m := { s.m with ie := { s.m.ie with txreq := true } } }

section
variable {sid : U16} {daddr : U32} {daw : Byte} {buf : Addr} {size : U16} {rs : Bool} {s t : State}

theorem transmitFields_eq :
    transmitFields sid daddr daw buf size rs s = transmitted sid daddr daw.toNat buf size.toNat rs [] s := rfl

/-- The engine part done, a transmit launches its write. -/
theorem runsTo_transmitIdle {w : Nat} (hw : daw.toNat = w)
    (hengine : RunsTo (fun u => transmitEngine buf size rs (transmitted sid daddr w buf size.toNat rs [] u)) s t)
    (hidle : t.m.busy = false) (hen : t.m.en = true) (hsem : t.i2cd.sem = false) :
    RunsTo (transmitIdle sid daddr daw buf size rs) s (launchedCall 0x48#8 (launchOn sid .W t)) := by
  subst hw
  exact hengine.bind (runsTo_launchEnd hidle hen hsem)

/-- In PIO mode the engine part is the pre-fill of one byte, with TXREQ enabled. -/
theorem transmitEngine_pio (hpio : s.i2cd.engine = .pio) : transmitEngine buf size rs s = pumpTx (txEnabled s) :=
  if_pos hpio

theorem runsTo_prefill_address (hpio : s.i2cd.engine = .pio) (hdepth : 1 ≤ s.cfg.fifoDepth) (hdaw : 0 < daw.toNat) :
    RunsTo (fun u => transmitEngine buf size rs (transmitted sid daddr daw.toNat buf size.toNat rs [] u)) s
      (txEnabled (transmitted sid daddr (daw.toNat - 1) buf size.toNat rs
        [daddr.extractLsb' (8 * (daw.toNat - 1)) 8] s)) := by
  refine ⟨?_, rfl⟩
  exact (transmitEngine_pio (s := transmitted sid daddr daw.toNat buf size.toNat rs [] (enterCritical s)) hpio).trans
    (pumpTx_address hdaw hdepth)

theorem runsTo_prefill_buffer (hpio : s.i2cd.engine = .pio) (hdepth : 1 ≤ s.cfg.fifoDepth) (hsize : 0 < size.toNat)
    (hdecl : declared s buf = true) :
    RunsTo (fun u => transmitEngine buf size rs (transmitted sid daddr 0 buf size.toNat rs [] u)) s
      (txEnabled (transmitted sid daddr 0 (buf + 1#32) (size.toNat - 1) rs [Memory.read s.mem buf.toNat] s)) := by
  refine ⟨?_, rfl⟩
  exact (transmitEngine_pio (s := transmitted sid daddr 0 buf size.toNat rs [] (enterCritical s)) hpio).trans
    (pumpTx_buffer rfl hsize hdepth hdecl)

theorem transmitIdle_undeclared (hdaw : daw.toNat = 0) (hpio : s.i2cd.engine = .pio) (hsize : 0 < size.toNat)
    (hdecl : declared s buf = false) : transmitIdle sid daddr daw buf size rs s = .error .stuck := by
  have hstuck : transmitEngine buf size rs (transmitted sid daddr 0 buf size.toNat rs [] s) = .error .stuck :=
    (transmitEngine_pio (s := transmitted sid daddr 0 buf size.toNat rs [] s) hpio).trans
      (pumpTx_undeclared rfl hsize hdecl)
  rw [transmitIdle, transmitFields_eq, hdaw, hstuck]
  rfl

theorem runsTo_transmitEngine_dma (hdma : s.i2cd.engine = .dma) :
    RunsTo (transmitEngine buf size rs) s
      (let u := channelStarted false buf size s
       { u with m := { u.m with dmaTx := true, ie := { u.m.ie with txreq := rs } } }) := by
  obtain ⟨_, hmain, _⟩ := channelStarted_frame false buf size s
  have hengine : ¬s.i2cd.engine = .pio := by simp [hdma]
  refine ⟨(if_neg hengine).trans ?_, congrArg MainCtx.crit hmain⟩
  exact congrArg (fun u : State =>
      Except.ok { u with m := { u.m with dmaTx := true, ie := { u.m.ie with txreq := rs } } })
    (channelStarted_enterCritical false buf size s)

/-- The wait for an idle controller. -/
theorem masterIdle_holds (hmet : Await.masterIdle.holds s = true) : s.m.busy = false := by
  simpa [Await.holds] using hmet

theorem size_pos_of_masterOpen (hopen : MasterOpen sid daw size s) : 0 < size.toNat := by
  obtain ⟨_, _, _, hsize⟩ := hopen
  exact Nat.pos_of_ne_zero fun hzero => hsize (BitVec.eq_of_toNat_eq hzero)

end

/-- Settles O42: the pre-fill in its three cases, the start of the channel, and the return. -/
theorem masterTransmit : Obligations.MasterTransmit := by
  intro sid daddr daw buf size rs s
  refine ⟨fun hs hopen hdepth hpio => ?_, fun hs hopen hdma hdaw => ?_,
    fun hs => (runsTo_waitedReturn 0x48#8 s).mainStep_resume hs⟩
  · have ⟨_, hcrit, _, hmet⟩ := hs
    have hidle := masterIdle_holds hmet
    have hsize := size_pos_of_masterOpen hopen
    rw [exec_masterTransmit_idle hs hopen (.inl hpio)]
    refine ⟨fun hdaw => ?_, fun hdaw hdecl => ?_, fun hdaw hdecl => ?_⟩
    · exact (runsTo_transmitIdle rfl (runsTo_prefill_address hpio hdepth hdaw) hidle rfl rfl).finishMain_eq hcrit
    · have hprefill := runsTo_prefill_buffer (sid := sid) (daddr := daddr) (rs := rs) hpio hdepth hsize hdecl
      exact (runsTo_transmitIdle hdaw hprefill hidle rfl rfl).finishMain_eq hcrit
    · exact congrArg (finishMain s) (transmitIdle_undeclared (s := enterCritical s) hdaw hpio hsize hdecl)
  · have ⟨_, hcrit, _, hmet⟩ := hs
    rw [exec_masterTransmit_idle hs hopen (.inr hdaw)]
    have hengine := runsTo_transmitEngine_dma (buf := buf) (size := size) (rs := rs)
      (s := transmitted sid daddr 0 buf size.toNat rs [] s) hdma
    obtain ⟨hm, _, hsem⟩ := channelStarted_frame false buf size (transmitted sid daddr 0 buf size.toNat rs [] s)
    exact (runsTo_transmitIdle hdaw (hengine.of_update rfl rfl)
      ((congrArg MasterHw.busy hm).trans (masterIdle_holds hmet)) (congrArg MasterHw.en hm) hsem).finishMain_eq hcrit

/-! ### I2C_MasterReceive (42_i2c_master.md R331) -/

section
variable {sid : U16} {daddr : U32} {daw : Byte} {buf : Addr} {size : U16} {rs : Bool} {s t : State}

/-- R335: the programmed count, which needs the extension beyond 256. -/
theorem programRxCount_eq (size : U16) (s : State) :
    programRxCount size.toNat s =
      { s with
        m :=
          { s.m with
            rxcnt := if size.toNat ≤ 256 then size else 0#16
            extend := decide (256 < size.toNat)
            rxTarget := size.toNat } } := by
  by_cases hsize : size.toNat ≤ 256
  · simp [programRxCount, rxCountLimit, hsize, hsize.not_gt]
  · simp [programRxCount, rxCountLimit, hsize, Nat.lt_of_not_le hsize]

theorem receiveFields_eq : receiveFields sid buf size rs s = receiving sid buf size rs s :=
  congrArg (fun u : State => { u with m := { u.m with rxf := [] } }) (programRxCount_eq size _)

/-- The engine part done, a receive launches its read. -/
theorem runsTo_receiveIdle
    (hengine : receiveEngine buf size rs (receiving sid buf size rs (enterCritical s)) = enterCritical t)
    (hmain : t.main = s.main) (hidle : t.m.busy = false) (hen : t.m.en = true) (hsem : t.i2cd.sem = false) :
    RunsTo (receiveIdle sid buf size rs) s (launchedCall 0x49#8 (launchOn sid .R t)) := by
  obtain ⟨hrun, hcrit⟩ := runsTo_launchEnd (op := 0x49#8) (sid := sid) (d := .R) hidle hen hsem
  refine ⟨?_, hcrit.trans (congrArg MainCtx.crit hmain)⟩
  rw [receiveIdle, receiveFields_eq, hengine]
  exact hrun

/-- RXREQ enabled. -/
def rxEnabled (s : State) : State := { s with m := { s.m with ie := { s.m.ie with rxreq := true } } }

theorem runsTo_receiveIdle_pio (hpio : s.i2cd.engine = .pio) (hidle : s.m.busy = false) :
    RunsTo (receiveIdle sid buf size rs) s
      (launchedCall 0x49#8 (launchOn sid .R (rxEnabled (receiving sid buf size rs s)))) :=
  runsTo_receiveIdle (if_pos hpio) rfl hidle rfl rfl

theorem runsTo_receiveIdle_dma (hdma : s.i2cd.engine = .dma) (hidle : s.m.busy = false) :
    RunsTo (receiveIdle sid buf size rs) s
      (launchedCall 0x49#8 (launchOn sid .R
        (let t := receiving sid buf size rs s
         let u := channelStarted true buf size t
         { u with m := { u.m with dmaRx := true, ie := { u.m.ie with rxreq := rs } } }))) := by
  obtain ⟨hm, hmain, hsem⟩ := channelStarted_frame true buf size (receiving sid buf size rs s)
  have hengine : ¬s.i2cd.engine = .pio := by simp [hdma]
  refine runsTo_receiveIdle ((if_neg hengine).trans ?_) hmain ((congrArg MasterHw.busy hm).trans hidle)
    (congrArg MasterHw.en hm) hsem
  exact congrArg (fun u : State => { u with m := { u.m with dmaRx := true, ie := { u.m.ie with rxreq := rs } } })
    (channelStarted_enterCritical true buf size (receiving sid buf size rs s))

end

/-- Settles O43: the data phase in the two modes, and the return. -/
theorem masterReceive : Obligations.MasterReceive := by
  intro sid daddr daw buf size rs s
  refine ⟨fun hs hopen hdaw => ?_, fun hs => (runsTo_waitedReturn 0x49#8 s).mainStep_resume hs⟩
  have ⟨_, hcrit, _, hmet⟩ := hs
  rw [exec_masterReceive_idle hs hopen hdaw]
  exact ⟨fun hpio => (runsTo_receiveIdle_pio hpio (masterIdle_holds hmet)).finishMain_eq hcrit,
    fun hdma => (runsTo_receiveIdle_dma hdma (masterIdle_holds hmet)).finishMain_eq hcrit⟩

/-! ### The addressing sub-transaction (42_i2c_master.md R331) -/

section
variable {sid : U16} {daddr : U32} {daw : Byte} {buf : Addr} {size : U16} {rs : Bool} {s t : State}

/-- The sub-transaction's setup with its first data-address byte in the FIFO. -/
def addressing (sid : U16) (daddr : U32) (daw : Byte) (rs : Bool) (s : State) : State :=
  let t := transmitted sid daddr (daw.toNat - 1) s.i2cd.txPtr 0 rs [daddr.extractLsb' (8 * (daw.toNat - 1)) 8] s
  txEnabled { t with i2cd := { t.i2cd with waitArmed := true } }

theorem runsTo_subFields (hdepth : 1 ≤ s.cfg.fifoDepth) (hdaw : 0 < daw.toNat) :
    RunsTo (fun u => pumpTx (subFields sid daddr daw rs u)) s (addressing sid daddr daw rs s) :=
  ⟨pumpTx_address (s := subFields sid daddr daw rs (enterCritical s)) hdaw hdepth, rfl⟩

/-- The sub-transaction launches a write and always waits. -/
theorem runsTo_subTransaction (hdepth : 1 ≤ s.cfg.fifoDepth) (hdaw : 0 < daw.toNat) (hidle : s.m.busy = false) :
    RunsTo (subTransaction sid daddr daw buf size rs) s
      (State.holdAt (launchOn sid .W (addressing sid daddr daw rs s)) .signalled .subDone) :=
  (runsTo_subFields hdepth hdaw).bind (RunsTo.of_launch (runsTo_awaitThen_unmet (signalled_unmet rfl)) hidle rfl)

/-- R547, R331: the call once the sub-transaction is signalled. -/
theorem exec_masterReceive_subDone (hs : Resumes .signalled .subDone s)
    (hrest : RunsTo (subEnd sid buf size) (waited s) t) :
    exec (.i2cMasterReceive 0#8 sid daddr daw buf size rs) s = .next t := by
  have hresume : RunsTo (fun u => subEnd sid buf size (endWait u)) s t := hrest.of_update rfl rfl
  exact hresume.mainStep_resume hs

/-- After a sub-transaction the read has no repeated start of its own. -/
theorem exec_masterReceive_idleResumed (hs : Resumes .masterIdle .idle s) (hdaw : 0 < daw.toNat)
    (hrest : RunsTo (receiveIdle sid buf size false) s t) :
    exec (.i2cMasterReceive 0#8 sid daddr daw buf size rs) s = .next t := by
  have hresume : RunsTo (receiveIdle sid buf size (readRepeat daw rs)) s t := by rwa [readRepeat, if_pos hdaw]
  exact hresume.mainStep_resume hs

end

/-- Settles O44: the sub-transaction to its wait, its two outcomes, and the read from its idle wait on. -/
theorem masterReceiveWithAddress : Obligations.MasterReceiveWithAddress := by
  intro sid daddr daw buf size rs s hdaw
  refine ⟨fun hs hopen hdepth hpio => ?_, fun hs hfailed => ?_, fun hs hsuccess hbusy => ?_,
    fun hs hsuccess hidle hpio => ?_, fun hs hpio => ?_⟩
  · have ⟨_, hcrit, _, hmet⟩ := hs
    rw [exec_masterReceive_subIdle hs hopen hpio hdaw]
    exact (runsTo_subTransaction hdepth hdaw (masterIdle_holds hmet)).finishMain_eq hcrit
  · exact exec_masterReceive_subDone hs
      (RunsTo.ite_neg (c := fun u => u.i2cd.result = .success) (runsTo_transferReturn 0x49#8 (waited s)) hfailed)
  · have hunmet : Await.masterIdle.holds (waited s) = false := by simp [Await.holds, waited, hbusy]
    exact exec_masterReceive_subDone hs ((runsTo_awaitThen_unmet hunmet).ite_pos hsuccess)
  · have hmet : Await.masterIdle.holds (waited s) = true := by simp [Await.holds, waited, hidle]
    have hread := runsTo_receiveIdle_pio (s := waited s) (sid := sid) (buf := buf) (size := size) (rs := false) hpio
      hidle
    exact exec_masterReceive_subDone hs ((hread.awaitThen_met hmet).ite_pos hsuccess)
  · have ⟨_, _, _, hmet⟩ := hs
    exact exec_masterReceive_idleResumed hs hdaw (runsTo_receiveIdle_pio hpio (masterIdle_holds hmet))

end Sys2Proof.Machine

/-! The events of the master bus engine (42_i2c_master.md R360 to R368): the engine and the trace that each leaves where
it is enabled. -/

namespace Sys2Proof.Machine

open Sys2Proof.Cert

/-! ### What each of them runs -/

theorem exec_mAddrAck (s : State) : exec .mAddrAck s = execMAddrAck s := rfl

theorem exec_mAddrNack (s : State) : exec .mAddrNack s = execMAddrNack s := rfl

theorem exec_mTxByteAck (s : State) : exec .mTxByteAck s = execMTxByteAck s := rfl

theorem exec_mTxByteNack (s : State) : exec .mTxByteNack s = execMTxByteNack s := rfl

theorem exec_mTxEnd (s : State) : exec .mTxEnd s = execMTxEnd s := rfl

theorem exec_mRxByte (b : Byte) (s : State) : exec (.mRxByte b) s = execMRxByte b s := rfl

theorem exec_mRxEnd (s : State) : exec .mRxEnd s = execMRxEnd s := rfl

theorem exec_mAlost (s : State) : exec .mAlost s = execMAlost s := rfl

/-- An enabled event whose effect runs to its end. -/
theorem eventStep_of_run {enabled : State → Bool} {effect : State → Run} {s t : State} (henabled : enabled s = true)
    (hrun : effect s = .ok t) : eventStep enabled effect s = .next t := by
  rw [eventStep, if_pos henabled, hrun, finishAgent]

/-! ### The ends of a transfer (42_i2c_master.md R368) -/

section
variable (s : State)

theorem mEnd_nack : mEnd .nack s = { s with m := ended false s.m, trace := s.trace ++ [.stop] } := rfl

theorem mEnd_alost : mEnd .alost s = { s with m := ended false s.m } := by
  simp [mEnd, emit, ended]

/-- A queued repeated start keeps the bus, with no STOP. -/
theorem mEnd_normal :
    mEnd .normal s =
      { s with m := ended s.m.rsQueued s.m, trace := s.trace ++ (if s.m.rsQueued then [] else [.stop]) } := by
  cases hqueued : s.m.rsQueued <;> simp [mEnd, emit, ended, hqueued]

theorem normalEnd_eq :
    normalEnd s =
      { s with
        m := { ended s.m.rsQueued s.m with tcomp := true }
        trace := s.trace ++ (if s.m.rsQueued then [] else [.stop]) } := by
  rw [normalEnd, mEnd_normal]

/-- R162, R360: the upper five bits of the first byte are the 10-bit form's. -/
theorem masterAddressEvents_eq : masterAddressEvents s = addressShown s.m := by
  have hupper : s.m.adr1.extractLsb' 3 5 = 0b11110#5 ↔ s.m.adr1.toNat / 8 = 0b11110 := by
    have hlt : s.m.adr1.toNat < 256 := s.m.adr1.isLt
    rw [← BitVec.toNat_inj, BitVec.extractLsb'_toNat, Nat.shiftRight_eq_div_pow, BitVec.toNat_ofNat]
    omega
  simp only [masterAddressEvents, addressShown, hupper]

end

/-- Settles O49: each event is enabled, and its effect is the stated state. -/
theorem masterAddressAndEndEvents : Obligations.MasterAddressAndEndEvents := by
  refine ⟨fun s hbusy hphase => ⟨?_, ?_⟩,
    fun s hbusy => ⟨?_, fun hphase => ⟨fun hdir htxf => ?_, fun hdir hcount => ?_⟩⟩⟩
  · have henabled : masterInAddress s = true := by simp [masterInAddress, hbusy, hphase]
    rw [exec_mAddrAck, execMAddrAck, eventStep_update henabled, masterAddressEvents_eq]
    rfl
  · have henabled : masterInAddress s = true := by simp [masterInAddress, hbusy, hphase]
    rw [exec_mAddrNack, execMAddrNack, eventStep_update henabled, masterAddressEvents_eq, mEnd_nack]
    simp [emit, ended]
  · rw [exec_mAlost, execMAlost, eventStep_update hbusy, mEnd_alost]
    rfl
  · have henabled : (masterInData .W s && s.m.txf.length == 0) = true := by
      simp [masterInData, hbusy, hphase, hdir, htxf]
    rw [exec_mTxEnd, execMTxEnd, eventStep_update henabled, normalEnd_eq]
  · have henabled : (masterInData .R s && s.m.nrx == s.m.rxTarget) = true := by
      simp [masterInData, hbusy, hphase, hdir, hcount]
    rw [exec_mRxEnd, execMRxEnd, eventStep_update henabled, normalEnd_eq]

/-! ### The data steps (42_i2c_master.md R362 to R364) -/

theorem popMTx_of_cons {b : Byte} {f : List Byte} {s : State} (htxf : s.m.txf = b :: f) :
    popMTx s = .ok (b, { s with m := { s.m with txf := f } }) := by
  simp [popMTx, popFifo, htxf]

theorem pushMRx_of_room {b : Byte} {s : State} (hroom : s.m.rxf.length < s.cfg.fifoDepth) :
    pushMRx b s = .ok { s with m := { s.m with rxf := s.m.rxf ++ [b] } } := by
  simp [pushMRx, pushFifo, hroom]

/-- Settles O50: each event is enabled, its FIFO has the byte or the room, and its effect is the stated state. -/
theorem masterDataEvents : Obligations.MasterDataEvents := by
  intro b f s hbusy hphase
  refine ⟨fun hdir htxf => ?_, fun hdir hcount hroom => ?_⟩
  · have henabled : txByteEnabled s = true := by simp [txByteEnabled, masterInData, hbusy, hphase, hdir, htxf]
    constructor
    · rw [exec_mTxByteAck]
      refine eventStep_of_run henabled ?_
      rw [popMTx_of_cons htxf]
      rfl
    · rw [exec_mTxByteNack]
      refine eventStep_of_run henabled ?_
      rw [popMTx_of_cons htxf]
      change Except.ok (mEnd .nack _) = _
      rw [mEnd_nack]
      simp [emit, ended]
  · have henabled : (masterInData .R s && decide (s.m.nrx < s.m.rxTarget) &&
        decide (s.m.rxf.length < s.cfg.fifoDepth)) = true := by
      simp [masterInData, hbusy, hphase, hdir, hcount, hroom]
    have hlast : (if s.m.nrx + 1 < s.m.rxTarget then BusEvent.ack else .nack) =
        if s.m.nrx + 1 = s.m.rxTarget then .nack else .ack := by
      by_cases hend : s.m.nrx + 1 = s.m.rxTarget
      · rw [if_pos hend, if_neg hend.not_lt]
      · rw [if_neg hend, if_pos (by omega)]
    rw [exec_mRxByte]
    refine eventStep_of_run henabled ?_
    rw [pushMRx_of_room hroom, ← hlast]
    rfl

end Sys2Proof.Machine

/-! The master interrupt handler (42_i2c_master.md R370 to R373): it reads and writes nothing of the active-handler
register, so its step is the outcome of its body at the state where it starts. -/

namespace Sys2Proof.Machine

open Sys2Proof.Cert

/-! ### What leaves the active-handler register alone (60_exceptions.md R533) -/

section
variable (s : State)

theorem leaveHandler_signalCompletion (r : I2CResult) :
    leaveHandler (signalCompletion r s) = signalCompletion r (leaveHandler s) := by
  simp only [signalCompletion, callback_eq]
  rw [apply_ite leaveHandler]
  rfl

theorem leaveHandler_writeAdr1 (b : Byte) : leaveHandler (writeAdr1 b s) = writeAdr1 b (leaveHandler s) := by
  cases hbusy : s.m.busy with
  | true => rw [writeAdr1_of_busy hbusy, writeAdr1_of_busy (s := leaveHandler s) hbusy]; rfl
  | false =>
    cases hen : s.m.en with
    | true => rw [writeAdr1_of_idle hbusy hen, writeAdr1_of_idle (s := leaveHandler s) hbusy hen]; rfl
    | false => rw [writeAdr1_of_disabled hbusy hen, writeAdr1_of_disabled (s := leaveHandler s) hbusy hen]; rfl

/-- R371: the repeat-start check is made once in a transaction. -/
theorem repeatStartCheck_eq : repeatStartCheck s = repeatChecked s := by
  cases hfirst : s.i2cd.firstFifo with
  | true => cases hrs : s.i2cd.rs <;> simp [repeatStartCheck, repeatChecked, hfirst, hrs]
  | false =>
    have hdriver : { s.i2cd with firstFifo := false, rs := s.i2cd.rs && !s.i2cd.firstFifo } = s.i2cd := by
      rw [hfirst, Bool.not_false, Bool.and_true, ← hfirst]
    have hdone : ¬(s.i2cd.firstFifo = true ∧ s.i2cd.rs = true) := by simp [hfirst]
    rw [repeatStartCheck, if_neg (ne_true_of_eq_false hfirst), repeatChecked, if_neg hdone, hdriver]

theorem leaveHandler_repeatChecked : leaveHandler (repeatChecked s) = repeatChecked (leaveHandler s) := by
  unfold repeatChecked
  rw [apply_ite leaveHandler, leaveHandler_writeAdr1]
  rfl

/-- R370, R372: the service of a latched TCOMP. -/
theorem tcompService_eq : (if s.m.tcomp then tcompService s else s) = tcompServed s := by
  have hkept : (decide (0 < s.m.rxf.length) && (s.i2cd.engine == .dma || decide (0 < s.i2cd.rxRem))) = true ↔
      s.m.rxf ≠ [] ∧ (s.i2cd.engine = .dma ∨ 0 < s.i2cd.rxRem) := by
    simp [List.length_pos_iff]
  unfold tcompServed tcompService
  by_cases htcomp : s.m.tcomp = true
  · simp only [htcomp, if_true, true_and, hkept, ite_not]
  · rw [if_neg htcomp, if_neg fun h => htcomp h.1]

theorem leaveHandler_tcompServed : leaveHandler (tcompServed s) = tcompServed (leaveHandler s) := by
  unfold tcompServed
  rw [apply_ite leaveHandler, leaveHandler_signalCompletion]
  rfl

end

/-- What a piece of the handler leaves is the same with the register cleared before it or after it. -/
abbrev IgnoresHandler (f : State → Run) : Prop := ∀ s, f (leaveHandler s) = (f s).map leaveHandler

theorem IgnoresHandler.of_update {update : State → State}
    (hupdate : ∀ s, leaveHandler (update s) = update (leaveHandler s)) :
    IgnoresHandler fun s => .ok (update s) := fun s =>
  congrArg Except.ok (hupdate s).symm

theorem IgnoresHandler.bind {f g : State → Run} (hf : IgnoresHandler f) (hg : IgnoresHandler g) :
    IgnoresHandler (fun s => do let t ← f s; g t) := by
  intro s
  change (f (leaveHandler s) >>= g) = (f s >>= g).map leaveHandler
  rw [hf s]
  cases f s with
  | error e => rfl
  | ok t => exact hg t

theorem IgnoresHandler.map {f : State → Run} {update : State → State} (hf : IgnoresHandler f)
    (hupdate : ∀ s, leaveHandler (update s) = update (leaveHandler s)) :
    IgnoresHandler fun s => (f s).map update := by
  intro s
  change (f (leaveHandler s)).map update = ((f s).map update).map leaveHandler
  rw [hf s]
  cases f s with
  | error e => rfl
  | ok t => exact congrArg Except.ok (hupdate t).symm

theorem IgnoresHandler.ite {f g : State → Run} {c : State → Prop} {_ : DecidablePred c} (hf : IgnoresHandler f)
    (hg : IgnoresHandler g) (hc : ∀ s, c (leaveHandler s) ↔ c s) :
    IgnoresHandler fun s => if c s then f s else g s := by
  intro s
  by_cases h : c s
  · exact (if_pos ((hc s).2 h)).trans ((hf s).trans (congrArg _ (if_pos h).symm))
  · exact (if_neg (mt (hc s).1 h)).trans ((hg s).trans (congrArg _ (if_neg h).symm))

/-- A value that a piece of the handler has read first, the register playing no part. -/
theorem IgnoresHandler.read {α : Type} {r : State → Except Stop α} {g : α → State → Run}
    (hr : ∀ s, r (leaveHandler s) = r s) (hg : ∀ a, IgnoresHandler (g a)) :
    IgnoresHandler (fun s => do let a ← r s; g a s) := by
  intro s
  change (r (leaveHandler s) >>= fun a => g a (leaveHandler s)) = (r s >>= fun a => g a s).map leaveHandler
  rw [hr s]
  cases r s with
  | error e => rfl
  | ok a => exact hg a s

theorem pushMTx_ignoresHandler {b : State → Byte} (hb : ∀ s, b (leaveHandler s) = b s) :
    IgnoresHandler fun s => pushMTx (b s) s := by
  intro s
  beta_reduce
  rcases Nat.lt_or_ge s.m.txf.length s.cfg.fifoDepth with hroom | hfull
  · rw [hb, pushMTx_of_room hroom, pushMTx_of_room (s := leaveHandler s) hroom]
    rfl
  · rw [hb, pushMTx_of_full hfull, pushMTx_of_full (s := leaveHandler s) hfull]
    rfl

theorem memWrite_ignoresHandler (b : Byte) : IgnoresHandler fun s => memWrite s.i2cd.rxPtr b s :=
  .ite (.of_update fun _ => rfl) (fun _ => rfl) fun _ => Iff.rfl

theorem signalCompletion_ignoresHandler {r : I2CResult} {update : State → State}
    (hupdate : ∀ s, leaveHandler (update s) = update (leaveHandler s)) :
    IgnoresHandler fun s => .ok (signalCompletion r (update s)) :=
  .of_update fun s => by rw [leaveHandler_signalCompletion, hupdate]

theorem pumpTx_ignoresHandler : IgnoresHandler pumpTx := by
  have haddress : IgnoresHandler fun s => pushMTx (dataAddressByte s.i2cd.dataAddr s.i2cd.daw) s :=
    pushMTx_ignoresHandler fun _ => rfl
  have hbuffer : ∀ b, IgnoresHandler (pushMTx b) := fun b => pushMTx_ignoresHandler fun _ => rfl
  refine .ite (haddress.bind (.of_update fun _ => rfl)) ?_ fun _ => Iff.rfl
  refine .ite ?_ (signalCompletion_ignoresHandler fun _ => rfl) fun _ => Iff.rfl
  exact .read (r := fun s => memRead s s.i2cd.txPtr) (fun _ => rfl) fun b => (hbuffer b).bind (.of_update fun _ => rfl)

theorem popMRx_of_cons {b : Byte} {f : List Byte} {s : State} (hrxf : s.m.rxf = b :: f) :
    popMRx s = .ok (b, { s with m := { s.m with rxf := f } }) := by
  simp [popMRx, popFifo, hrxf]

/-- Storing a received byte in the buffer (R334). -/
def storeRx (b : Byte) (s : State) : Run := do
  let t ← memWrite s.i2cd.rxPtr b s
  .ok { t with i2cd := { t.i2cd with rxPtr := t.i2cd.rxPtr + 1#32, rxRem := t.i2cd.rxRem - 1 } }

theorem storeRx_ignoresHandler (b : Byte) : IgnoresHandler (storeRx b) :=
  (memWrite_ignoresHandler b).bind (.of_update fun _ => rfl)

theorem pumpRxByte_of_none {s : State} (hnone : s.i2cd.rxRem = 0 ∨ s.m.rxf = []) : pumpRxByte s = .ok s := by
  rcases hnone with hrem | hrxf
  · simp [pumpRxByte, hrem]
  · simp [pumpRxByte, hrxf]

theorem pumpRxByte_of_cons {b : Byte} {f : List Byte} {s : State} (hrem : 0 < s.i2cd.rxRem) (hrxf : s.m.rxf = b :: f) :
    pumpRxByte s = storeRx b { s with m := { s.m with rxf := f } } := by
  have hbyte : (0 < s.i2cd.rxRem && decide (0 < s.m.rxf.length)) = true := by simp [hrem, hrxf]
  rw [pumpRxByte, if_pos hbyte, popMRx_of_cons hrxf]
  rfl

theorem pumpRxByte_ignoresHandler : IgnoresHandler pumpRxByte := by
  intro s
  have hkept (hnone : s.i2cd.rxRem = 0 ∨ s.m.rxf = []) :
      pumpRxByte (leaveHandler s) = (pumpRxByte s).map leaveHandler := by
    rw [pumpRxByte_of_none hnone, pumpRxByte_of_none (s := leaveHandler s) hnone]
    rfl
  rcases Nat.eq_zero_or_pos s.i2cd.rxRem with hrem | hrem
  · exact hkept (.inl hrem)
  cases hrxf : s.m.rxf with
  | nil => exact hkept (.inr hrxf)
  | cons b f =>
    rw [pumpRxByte_of_cons hrem hrxf, pumpRxByte_of_cons (s := leaveHandler s) hrem hrxf]
    exact storeRx_ignoresHandler b { s with m := { s.m with rxf := f } }

theorem leaveHandler_pumpRxEnd (s : State) : leaveHandler (pumpRxEnd s) = pumpRxEnd (leaveHandler s) := by
  unfold pumpRxEnd
  rw [apply_ite leaveHandler, leaveHandler_signalCompletion]
  rfl

theorem pumpRx_ignoresHandler : IgnoresHandler pumpRx :=
  pumpRxByte_ignoresHandler.map leaveHandler_pumpRxEnd

theorem fifoPump_ignoresHandler : IgnoresHandler fifoPump :=
  .ite (.ite pumpRx_ignoresHandler pumpTx_ignoresHandler fun _ => Iff.rfl) (.of_update fun _ => rfl) fun _ => Iff.rfl

/-! ### The error service (42_i2c_master.md R370, R373, R346) -/

/-- A completion reads and writes nothing of the master side. -/
theorem signalCompletion_setM (r : I2CResult) (m : MasterHw) (s : State) :
    { signalCompletion r s with m := m } = signalCompletion r { s with m := m } := by
  simp only [signalCompletion, callback_eq]
  split
  · rfl
  · rfl

theorem masterError_eq (s : State) :
    masterError s =
      signalCompletion
        (if s.m.alost then .masterAlost else if s.m.nackA then .masterNackAddress else .masterNackData)
        { s with
          m :=
            { s.m with
              alost := false, nackA := false, nackD := false, tcomp := false, en := s.cfg.mctlPorEn
              ie := MasterIe.none, dmaTx := false, dmaRx := false } } := by
  have hm : ∀ r t, (signalCompletion r t).m = t.m := by
    intro r t
    rcases signalCompletion_cases r t with ⟨_, h⟩ | ⟨_, h⟩
    · rw [h]
    · rw [h]
  rw [masterError]
  dsimp only
  rw [signalCompletion_setM, hm]
  rfl

theorem leaveHandler_masterError (s : State) : leaveHandler (masterError s) = masterError (leaveHandler s) := by
  rw [masterError_eq, masterError_eq, leaveHandler_signalCompletion]
  rfl

/-! ### The handler's step (42_i2c_master.md R370, 60_exceptions.md R533) -/

/-- R370 with no error latched: a due FIFO service, and then that of a latched TCOMP. -/
def masterServed (s : State) : Run :=
  (if fifoReqM s then fifoPump (repeatChecked s) else .ok s).map tcompServed

theorem masterService_eq (s : State) :
    masterService s = if masterErrorLatched s then .ok (masterError s) else masterServed s := by
  simp only [masterService, masterServed, fifoService, repeatStartCheck_eq, tcompService_eq]
  by_cases hdue : fifoReqM s = true
  · simp only [hdue, if_true]
    cases fifoPump (repeatChecked s) <;> rfl
  · simp only [hdue]
    rfl

theorem masterService_ignoresHandler : IgnoresHandler masterService := by
  have hfifo : IgnoresHandler fun s => fifoPump (repeatChecked s) := fun s =>
    (congrArg fifoPump (leaveHandler_repeatChecked s).symm).trans (fifoPump_ignoresHandler _)
  have hdue : IgnoresHandler fun s => if fifoReqM s then fifoPump (repeatChecked s) else .ok s :=
    .ite hfifo (.of_update (update := id) fun _ => rfl) fun _ => Iff.rfl
  have hserved : IgnoresHandler masterServed := hdue.map leaveHandler_tcompServed
  intro s
  rw [masterService_eq, masterService_eq]
  exact IgnoresHandler.ite (c := fun t => masterErrorLatched t = true) (.of_update leaveHandler_masterError) hserved
    (fun _ => Iff.rfl) s

/-- A handler whose body ignores the register: its step is its body's outcome. -/
theorem handlerStep_of_ignores {h : Handler} {l : Line} {req : State → Bool} {body : State → Run} {s : State}
    (hstart : MayStart l (req s) s) (hbody : IgnoresHandler body) :
    handlerStep h l req body s = finishAgent s (body s) := by
  obtain ⟨hline, hreq, hcrit, hidle⟩ := hstart
  have henabled : handlerCanStart l (req s) s = true := by simp [handlerCanStart, hline, hreq, hcrit, hidle]
  rw [handlerStep, eventStep, if_pos henabled, ← hbody, leaveHandler_enterHandler hidle]

theorem exec_i2cmIsr {s : State} (hstart : MayStart .i2cm (masterReq s) s) :
    exec .i2cmIsr s = finishAgent s (masterService s) :=
  handlerStep_of_ignores hstart masterService_ignoresHandler

/-- Settles O51: a latched error takes the error service. -/
theorem masterIsrError : Obligations.MasterIsrError := by
  intro s hstart herror
  have hlatched : masterErrorLatched s = true := by simpa [masterErrorLatched, or_assoc] using herror
  rw [exec_i2cmIsr hstart, masterService_eq, if_pos hlatched, masterError_eq]
  rfl

/-! ### The FIFO service (42_i2c_master.md R371, R333, R334) -/

/-- A write of the first address register may launch, which writes the engine and the trace but neither FIFO. -/
theorem writeAdr1_form (b : Byte) (s : State) :
    ∃ m trace, writeAdr1 b s = { s with m := m, trace := trace } ∧ m.txf = s.m.txf ∧ m.rxf = s.m.rxf := by
  cases hbusy : s.m.busy with
  | true => exact ⟨_, _, writeAdr1_of_busy hbusy, rfl, rfl⟩
  | false =>
    cases hen : s.m.en with
    | true => exact ⟨_, _, writeAdr1_of_idle hbusy hen, rfl, rfl⟩
    | false => exact ⟨_, _, writeAdr1_of_disabled hbusy hen, rfl, rfl⟩

/-- The repeat-start check leaves the FIFOs and the counts of the transfer as they are. -/
theorem repeatChecked_form (s : State) :
    ∃ m trace,
      repeatChecked s =
        { s with
          m := m, trace := trace
          i2cd := { s.i2cd with firstFifo := false, rs := s.i2cd.rs && !s.i2cd.firstFifo } } ∧
      m.txf = s.m.txf ∧ m.rxf = s.m.rxf := by
  unfold repeatChecked
  split
  · obtain ⟨m, trace, hwrite, htxf, hrxf⟩ := writeAdr1_form s.m.adr1
      { s with i2cd := { s.i2cd with firstFifo := false, rs := s.i2cd.rs && !s.i2cd.firstFifo } }
    exact ⟨m, trace, hwrite, htxf, hrxf⟩
  · exact ⟨s.m, s.trace, rfl, rfl, rfl⟩

section
variable {s : State}

theorem fifoPump_tx (hpio : s.i2cd.engine = .pio) (hrem : s.i2cd.rxRem = 0) : fifoPump s = pumpTx s := by
  rw [fifoPump, if_pos hpio, if_neg hrem.not_gt]

theorem fifoPump_rx (hpio : s.i2cd.engine = .pio) (hrem : 0 < s.i2cd.rxRem) : fifoPump s = pumpRx s := by
  rw [fifoPump, if_pos hpio, if_pos hrem]

theorem fifoPump_dma (hdma : s.i2cd.engine = .dma) :
    fifoPump s = .ok { s with m := { s.m with ie := { s.m.ie with txreq := false, rxreq := false } } } := by
  have hengine : ¬s.i2cd.engine = .pio := by simp [hdma]
  rw [fifoPump, if_neg hengine]

/-- R334: a received byte goes to the buffer, and the last one completes. -/
theorem pumpRx_byte {b : Byte} {f : List Byte} (hrem : 0 < s.i2cd.rxRem) (hrxf : s.m.rxf = b :: f)
    (hdecl : declared s s.i2cd.rxPtr = true) :
    pumpRx s =
      .ok
        (let u :=
          { s with
            mem := Memory.write s.mem s.i2cd.rxPtr.toNat b
            m := { s.m with rxf := f }
            i2cd := { s.i2cd with rxPtr := s.i2cd.rxPtr + 1#32, rxRem := s.i2cd.rxRem - 1 } }
        if s.i2cd.rxRem = 1 then
          signalCompletion .success { u with m := { u.m with ie := { u.m.ie with rxreq := false } } }
        else u) := by
  have hlast : s.i2cd.rxRem - 1 = 0 ↔ s.i2cd.rxRem = 1 := by omega
  have hwrite : memWrite s.i2cd.rxPtr b { s with m := { s.m with rxf := f } } =
      .ok { s with m := { s.m with rxf := f }, mem := Memory.write s.mem s.i2cd.rxPtr.toNat b } :=
    if_pos hdecl
  rw [pumpRx, pumpRxByte_of_cons hrem hrxf, storeRx, hwrite]
  simp only [← hlast]
  rfl

theorem pumpRx_empty (hrem : 0 < s.i2cd.rxRem) (hrxf : s.m.rxf = []) : pumpRx s = .ok s := by
  rw [pumpRx, pumpRxByte_of_none (.inr hrxf)]
  exact congrArg Except.ok (if_neg hrem.ne')

theorem pumpRx_undeclared (hrem : 0 < s.i2cd.rxRem) (hrxf : s.m.rxf ≠ []) (hdecl : declared s s.i2cd.rxPtr = false) :
    pumpRx s = .error .stuck := by
  obtain ⟨b, f, hcons⟩ := List.exists_cons_of_ne_nil hrxf
  have hwrite : memWrite s.i2cd.rxPtr b { s with m := { s.m with rxf := f } } = .error .stuck :=
    if_neg (ne_true_of_eq_false hdecl)
  rw [pumpRx, pumpRxByte_of_cons hrem hcons, storeRx, hwrite]
  rfl

theorem masterService_of_noError (hok : masterErrorLatched s = false) : masterService s = masterServed s := by
  rw [masterService_eq, if_neg (ne_true_of_eq_false hok)]

/-- The handler with a FIFO service due, which runs to its end. -/
theorem exec_i2cmIsr_pumped {t : State} (hstart : MayStart .i2cm (masterReq s) s) (hok : masterErrorLatched s = false)
    (hdue : fifoReqM s = true) (hpump : fifoPump (repeatChecked s) = .ok t) :
    exec .i2cmIsr s = .next (tcompServed t) := by
  rw [exec_i2cmIsr hstart, masterService_of_noError hok, masterServed, if_pos hdue, hpump]
  rfl

/-- The handler with a FIFO service due, which stops. -/
theorem exec_i2cmIsr_stopped {e : Stop} (hstart : MayStart .i2cm (masterReq s) s) (hok : masterErrorLatched s = false)
    (hdue : fifoReqM s = true) (hpump : fifoPump (repeatChecked s) = .error e) :
    exec .i2cmIsr s = finishAgent s (.error e) := by
  rw [exec_i2cmIsr hstart, masterService_of_noError hok, masterServed, if_pos hdue, hpump]
  rfl

end

/-- Settles O52: with no error the body is the repeat-start check, a pump in each of its cases, and the TCOMP
service. -/
theorem masterIsrService : Obligations.MasterIsrService := by
  intro s hstart halost hnackA hnackD
  have hok : masterErrorLatched s = false := by simp [masterErrorLatched, halost, hnackA, hnackD]
  obtain ⟨m, trace, hform, htxf, hrxf⟩ := repeatChecked_form s
  refine ⟨fun hnone => ?_, fun hdue hdma => ?_, fun hdue hpio hrem hdaw hroom => ?_,
    fun hdue hpio hrem hdaw htx hroom hdecl => ?_, fun hdue hpio hrem hdaw htx => ?_,
    fun b f hdue hpio hrem hbyte hdecl => ?_, fun hdue hpio hrem hempty => ?_,
    fun hdue hpio hrem hbyte hfull => ?_, fun hdue hpio hundeclared => ?_⟩
  · rw [exec_i2cmIsr hstart, masterService_of_noError hok, masterServed, if_neg (ne_true_of_eq_false hnone)]
    rfl
  · refine exec_i2cmIsr_pumped hstart hok hdue (fifoPump_dma ?_)
    rw [hform]
    exact hdma
  · refine exec_i2cmIsr_pumped hstart hok hdue ?_
    rw [← htxf] at hroom ⊢
    rw [hform]
    refine (fifoPump_tx ?_ ?_).trans (pumpTx_address ?_ ?_)
    exacts [hpio, hrem, hdaw, hroom]
  · refine exec_i2cmIsr_pumped hstart hok hdue ?_
    rw [← htxf] at hroom ⊢
    rw [hform]
    refine (fifoPump_tx ?_ ?_).trans (pumpTx_buffer ?_ ?_ ?_ ?_)
    exacts [hpio, hrem, hdaw, htx, hroom, hdecl]
  · refine exec_i2cmIsr_pumped hstart hok hdue ?_
    rw [hform]
    refine (fifoPump_tx ?_ ?_).trans (pumpTx_end ?_ ?_)
    exacts [hpio, hrem, hdaw, htx]
  · refine exec_i2cmIsr_pumped hstart hok hdue ?_
    rw [← hrxf] at hbyte
    rw [hform]
    refine (fifoPump_rx ?_ ?_).trans (pumpRx_byte ?_ ?_ ?_)
    exacts [hpio, hrem, hrem, hbyte, hdecl]
  · refine exec_i2cmIsr_pumped hstart hok hdue ?_
    rw [← hrxf] at hempty
    rw [hform]
    refine (fifoPump_rx ?_ ?_).trans (pumpRx_empty ?_ ?_)
    exacts [hpio, hrem, hrem, hempty]
  · refine exec_i2cmIsr_stopped (e := .fault .fifoOverflow) hstart hok hdue ?_
    rw [← htxf] at hfull
    rw [hform]
    refine (fifoPump_tx ?_ ?_).trans (pumpTx_full ?_ ?_)
    exacts [hpio, hrem, hbyte, hfull]
  · refine exec_i2cmIsr_stopped (e := .stuck) hstart hok hdue ?_
    rw [hform]
    rcases hundeclared with ⟨hrem, hbyte, hdecl⟩ | ⟨hrem, hdaw, htx, hdecl⟩
    · rw [← hrxf] at hbyte
      refine (fifoPump_rx ?_ ?_).trans (pumpRx_undeclared ?_ ?_ ?_)
      exacts [hpio, hrem, hrem, hbyte, hdecl]
    · refine (fifoPump_tx ?_ ?_).trans (pumpTx_undeclared ?_ ?_ ?_)
      exacts [hpio, hrem, hdaw, htx, hdecl]

end Sys2Proof.Machine

/-! The slave transfers (43_i2c_slave.md R410 to R413): their checks, their wait, and the calls they set up. -/

namespace Sys2Proof.Machine

open Sys2Proof.Cert

/-! ### The checks (43_i2c_slave.md R410 to R412) -/

section
variable {op : Byte} {size : U16} {rest : State → Run} {s : State}

/-- The gate and the checks of a slave transfer, in the order of R410. -/
def slaveChecks (op : Byte) (size : U16) (rest : State → Run) : State → Run :=
  i2cGate op 0#8 [.slave] fun s =>
    if s.i2cd.gcPending then retI2c op .generalCallPending s else slaveCheck op size rest s

theorem slaveChecks_of_slave (hmode : s.i2cd.mode = .slave) :
    slaveChecks op size rest s =
      if s.i2cd.gcPending then retI2c op .generalCallPending s else slaveCheck op size rest s :=
  i2cGate_open (by simp [hmode]) (List.mem_singleton.2 hmode)

theorem slaveChecks_generalCall (hmode : s.i2cd.mode = .slave) (hgc : s.i2cd.gcPending = true) :
    slaveChecks op size rest s = retI2c op .generalCallPending s := by
  rw [slaveChecks_of_slave hmode, if_pos hgc]

/-- The own address does not fit the addressing width (R412). -/
theorem ownAddressTooLarge_iff :
    (!s.i2cd.tenBit && decide (0x80 ≤ s.i2cd.slaveId.toNat)) = true ↔
      s.i2cd.tenBit = false ∧ 0x80 ≤ s.i2cd.slaveId.toNat := by
  simp

theorem slaveChecks_badParam (hmode : s.i2cd.mode = .slave) (hgc : s.i2cd.gcPending = false)
    (hbad : s.i2cd.tenBit = false ∧ 0x80 ≤ s.i2cd.slaveId.toNat) :
    slaveChecks op size rest s = retI2c op .badParam s := by
  rw [slaveChecks_of_slave hmode, if_neg (ne_true_of_eq_false hgc), slaveCheck,
    if_pos (ownAddressTooLarge_iff.2 hbad)]

theorem slaveChecks_zeroLength (hmode : s.i2cd.mode = .slave) (hgc : s.i2cd.gcPending = false)
    (haddr : ¬(s.i2cd.tenBit = false ∧ 0x80 ≤ s.i2cd.slaveId.toNat)) (hsize : size = 0#16) :
    slaveChecks op size rest s = .error (.refuse .zeroLengthTransfer) := by
  rw [slaveChecks_of_slave hmode, if_neg (ne_true_of_eq_false hgc), slaveCheck,
    if_neg (mt ownAddressTooLarge_iff.1 haddr), if_pos hsize]

theorem slaveChecks_open (hopen : SlaveOpen size s) : slaveChecks op size rest s = rest s := by
  obtain ⟨hmode, hgc, haddr, hsize⟩ := hopen
  rw [slaveChecks_of_slave hmode, if_neg (ne_true_of_eq_false hgc), slaveCheck,
    if_neg (mt ownAddressTooLarge_iff.1 haddr), if_neg hsize]

end

/-! ### The calls from their start and from their waits -/

section
variable {op : Byte} {size : U16} {idle : State → Run} {s : State}

theorem slaveCall_atStart (hs : AtStart s) :
    slaveCall op 0#8 size idle s =
      finishMain s (slaveChecks op size (awaitThen .slaveIdle .idle idle) (enterCritical s)) :=
  mainStep_of_atStart hs

/-- R410, R411 from the point where the engine is idle, which it may be at once. -/
theorem slaveCall_idle (hs : Reaches .slaveIdle .idle s) (hopen : SlaveOpen size s) :
    slaveCall op 0#8 size idle s = finishMain s (idle (enterCritical s)) := by
  have ⟨_, _, _, hmet⟩ := hs
  refine mainStep_of_reaches hs ?_ rfl
  exact (slaveChecks_open (s := enterCritical s) hopen).trans (awaitThen_of_holds hmet)

/-- The return of a blocking call once it is signalled, with its counts. -/
theorem runsTo_slaveWaitedReturn (op : Byte) (s : State) :
    RunsTo (fun u => slaveReturn op (endWait u)) s
      (ret op (.i2c (codeOfResult s.i2cd.result))
        { txRem := some s.i2cd.txRem, rxRem := some s.i2cd.rxRem, rxFilled := some s.i2cd.rxFilled } (waited s)) :=
  ⟨rfl, rfl⟩

/-- Both slave transfers are slave calls. -/
theorem exec_eq_slaveCall {i : Instr} {buf : Addr}
    (hi : i = .i2cSlaveTransmit 0#8 buf size ∨ i = .i2cSlaveReceive 0#8 buf size) :
    ∃ idle, ∀ s, exec i s = slaveCall (opcodeOf i) 0#8 size idle s := by
  rcases hi with rfl | rfl
  · exact ⟨_, fun _ => rfl⟩
  · exact ⟨_, fun _ => rfl⟩

end

/-- Settles O45: both transfers are slave calls, which make their checks in this order and then wait. -/
theorem slaveTransferChecks : Obligations.SlaveTransferChecks := by
  intro i buf size s hi
  obtain ⟨idle, hexec⟩ := exec_eq_slaveCall hi
  rw [hexec]
  refine ⟨fun hs hmode => ?_, fun hs => (runsTo_slaveWaitedReturn _ s).mainStep_resume hs⟩
  have ⟨_, _, hcrit⟩ := hs
  rw [slaveCall_atStart hs]
  refine ⟨fun hgc => ?_, fun hgc htenBit haddr => ?_, fun hgc haddr hsize => ?_, fun hopen hbusy hhold => ?_⟩
  · rw [slaveChecks_generalCall (s := enterCritical s) hmode hgc]
    exact (runsTo_retI2c _ _ s).finishMain_eq hcrit
  · rw [slaveChecks_badParam (s := enterCritical s) hmode hgc ⟨htenBit, haddr⟩]
    exact (runsTo_retI2c _ _ s).finishMain_eq hcrit
  · rw [slaveChecks_zeroLength (s := enterCritical s) hmode hgc haddr hsize]
    rfl
  · have hunmet : Await.slaveIdle.holds s = false := by simp [Await.holds, slaveIdle, hbusy, hhold]
    rw [slaveChecks_open (s := enterCritical s) hopen]
    exact (runsTo_awaitThen_unmet hunmet).finishMain_eq hcrit

/-! ### The end of a call (43_i2c_slave.md R410, R411) -/

section
variable {op : Byte} {size : U16} {s : State}

theorem runsTo_slaveCallEnd (hsem : s.i2cd.sem = false) : RunsTo (slaveCallEnd op) s (launchedCall op s) := by
  unfold launchedCall
  split
  · next hblocking => exact (runsTo_awaitThen_unmet (signalled_unmet hsem)).ite_pos hblocking
  · next hpolling => exact (runsTo_retI2c op .success s).ite_neg hpolling

theorem runsTo_slaveRelease (hsem : s.i2cd.sem = false) :
    RunsTo (fun u => slaveCallEnd op (slaveRelease u)) s (launchedCall op (slaveRelease s)) :=
  RunsTo.of_update (runsTo_slaveCallEnd hsem) rfl rfl

end

/-! ### The start of a slave channel (44_i2c_dma.md R460) -/

section
variable (c : Chan) (buf : Addr) (size : Nat) (s : State)

theorem slaveRelease_scheduleNext : slaveRelease (scheduleNext s) = scheduleNext (slaveRelease s) := by
  unfold scheduleNext
  dsimp only
  rw [apply_ite slaveRelease]
  rfl

theorem slaveRelease_dmaSyncRem : slaveRelease (dmaSyncRem c s) = dmaSyncRem c (slaveRelease s) := by
  unfold dmaSyncRem
  rw [apply_ite slaveRelease]
  rfl

/-- A channel's start reads and writes nothing of the clock hold and the enable. -/
theorem slaveRelease_dmaStart : slaveRelease (dmaStart c buf size s) = dmaStart c buf size (slaveRelease s) := by
  have henable : ∀ t, slaveRelease (dmaEnable c t) = dmaEnable c (slaveRelease t) := fun _ => rfl
  have harm : slaveRelease (dmaArm c buf size s) = dmaArm c buf size (slaveRelease s) := rfl
  simp only [dmaStart_eq, slaveRelease_dmaSyncRem, henable, slaveRelease_scheduleNext, harm]

end

/-! ### I2C_SlaveReceive (43_i2c_slave.md R411) -/

section
variable {buf : Addr} {size : U16} {s t : State}

/-- A slave receive set up, its clock hold released and the slave enabled. -/
def slaveReceiving (buf : Addr) (size : U16) (s : State) : State :=
  let t := slaveReady size s
  { t with i2cd := { t.i2cd with rxPtr := buf, rxRem := size.toNat, txRem := 0 } }

/-- RXREQ enabled. -/
def slaveRxEnabled (s : State) : State := { s with sl := { s.sl with ie := { s.sl.ie with rxreq := true } } }

/-- The receive channel started, with its request enabled. -/
def slaveRxStarted (buf : Addr) (size : U16) (s : State) : State :=
  let u := dmaStart .srx buf size.toNat s
  { u with sl := { u.sl with dmaRx := true } }

theorem slaveRxStarted_enterCritical (buf : Addr) (size : U16) (s : State) :
    slaveRxStarted buf size (enterCritical s) = enterCritical (slaveRxStarted buf size s) :=
  congrArg (fun u : State => { u with sl := { u.sl with dmaRx := true } })
    (dmaStart_enterCritical .srx buf size.toNat s)

theorem slaveReceiveEngine_pio (hpio : s.i2cd.engine = .pio) :
    slaveRelease (slaveReceiveEngine buf size (slaveReceiveFields buf size s)) =
      slaveRxEnabled (slaveReceiving buf size s) := by
  have hengine : (slaveReceiveFields buf size s).i2cd.engine = .pio := hpio
  rw [slaveReceiveEngine, if_pos hengine]
  rfl

theorem slaveReceiveEngine_dma (hdma : s.i2cd.engine = .dma) :
    slaveRelease (slaveReceiveEngine buf size (slaveReceiveFields buf size s)) =
      slaveRxStarted buf size (slaveReceiving buf size s) := by
  have hengine : ¬(slaveReceiveFields buf size s).i2cd.engine = .pio := by
    rw [show (slaveReceiveFields buf size s).i2cd.engine = .dma from hdma]
    decide
  rw [slaveReceiveEngine, if_neg hengine]
  exact congrArg (fun u : State => { u with sl := { u.sl with dmaRx := true } })
    (slaveRelease_dmaStart .srx buf size.toNat (slaveReceiveFields buf size s))

/-- The engine part done, a slave receive comes to its end. -/
theorem runsTo_slaveReceiveIdle
    (hengine : slaveRelease (slaveReceiveEngine buf size (slaveReceiveFields buf size (enterCritical s))) =
      enterCritical t)
    (hmain : t.main = s.main) (hsem : t.i2cd.sem = false) :
    RunsTo (slaveReceiveIdle buf size) s (launchedCall 0x4B#8 t) := by
  obtain ⟨hrun, hcrit⟩ := runsTo_slaveCallEnd (op := 0x4B#8) hsem
  refine ⟨?_, hcrit.trans (congrArg MainCtx.crit hmain)⟩
  rw [slaveReceiveIdle, hengine, hrun]

end

/-- Settles O47: the engine part in the two modes, and the end of the call. -/
theorem slaveReceive : Obligations.SlaveReceive := by
  intro buf size s hs hopen
  have ⟨_, hcrit, _, _⟩ := hs
  have hexec : exec (.i2cSlaveReceive 0#8 buf size) s = finishMain s (slaveReceiveIdle buf size (enterCritical s)) :=
    slaveCall_idle hs hopen
  rw [hexec]
  refine ⟨fun hpio => ?_, fun hdma => ?_⟩
  · have hengine : slaveRelease (slaveReceiveEngine buf size (slaveReceiveFields buf size (enterCritical s))) =
        enterCritical (slaveRxEnabled (slaveReceiving buf size s)) :=
      slaveReceiveEngine_pio (s := enterCritical s) hpio
    exact (runsTo_slaveReceiveIdle hengine rfl rfl).finishMain_eq hcrit
  · obtain ⟨_, hmain, hsem⟩ := dmaStart_frame .srx buf size.toNat (slaveReceiving buf size s)
    have hengine := (slaveReceiveEngine_dma (s := enterCritical s) (buf := buf) (size := size) hdma).trans
      (slaveRxStarted_enterCritical buf size (slaveReceiving buf size s))
    exact (runsTo_slaveReceiveIdle hengine hmain hsem).finishMain_eq hcrit

/-! ### The burst (43_i2c_slave.md R410) -/

section
variable {s : State}

theorem pushSTx_of_room {b : Byte} (hroom : s.sl.txf.length < s.cfg.fifoDepth) :
    pushSTx b s = .ok { s with sl := { s.sl with txf := s.sl.txf ++ [b] } } := by
  simp [pushSTx, pushFifo, hroom]

theorem slaveTxByte_of_declared (hdecl : declared s s.i2cd.txPtr = true)
    (hroom : s.sl.txf.length < s.cfg.fifoDepth) :
    slaveTxByte s =
      .ok { s with
        sl := { s.sl with txf := s.sl.txf ++ [Memory.read s.mem s.i2cd.txPtr.toNat] }
        i2cd := { s.i2cd with txPtr := s.i2cd.txPtr + 1#32, txRem := s.i2cd.txRem - 1 } } := by
  rw [slaveTxByte, memRead_of_declared hdecl]
  change (pushSTx _ s >>= _) = _
  rw [pushSTx_of_room hroom]
  rfl

theorem slaveTxByte_of_undeclared (hdecl : declared s s.i2cd.txPtr = false) : slaveTxByte s = .error .stuck := by
  rw [slaveTxByte, memRead_of_undeclared hdecl]
  rfl

/-- The first `k` bytes of the buffer moved to the TX FIFO. -/
def slaveSent (k : Nat) (s : State) : State :=
  { s with
    sl := { s.sl with txf := s.sl.txf ++ bufferBytes s s.i2cd.txPtr k }
    i2cd := { s.i2cd with txPtr := s.i2cd.txPtr + BitVec.ofNat 32 k, txRem := s.i2cd.txRem - k } }

theorem length_bufferBytes (s : State) (buf : Addr) (n : Nat) : (bufferBytes s buf n).length = n := by
  simp [bufferBytes]

/-- R121: one byte more is the byte after the last. -/
theorem bufferBytes_succ (s : State) (buf : Addr) (n : Nat) :
    bufferBytes s buf (n + 1) = bufferBytes s buf n ++ [Memory.read s.mem (buf + BitVec.ofNat 32 n).toNat] := by
  simp [bufferBytes, List.range_succ]

theorem slaveSent_zero : slaveSent 0 s = s := by
  simp [slaveSent, bufferBytes]

theorem length_slaveSent_txf (k : Nat) : (slaveSent k s).sl.txf.length = s.sl.txf.length + k := by
  rw [slaveSent, List.length_append, length_bufferBytes]

/-- One byte more after `k` bytes. -/
theorem slaveTxByte_slaveSent {k : Nat} (hroom : s.sl.txf.length + k < s.cfg.fifoDepth)
    (hdecl : declared s (s.i2cd.txPtr + BitVec.ofNat 32 k) = true) :
    slaveTxByte (slaveSent k s) = .ok (slaveSent (k + 1) s) := by
  have hptr : s.i2cd.txPtr + BitVec.ofNat 32 k + 1#32 = s.i2cd.txPtr + BitVec.ofNat 32 (k + 1) := by
    rw [BitVec.add_assoc, ← BitVec.ofNat_add]
  have hroom' : (slaveSent k s).sl.txf.length < (slaveSent k s).cfg.fifoDepth := by
    rw [length_slaveSent_txf]
    exact hroom
  rw [slaveTxByte_of_declared (s := slaveSent k s) hdecl hroom', slaveSent, slaveSent, bufferBytes_succ,
    ← List.append_assoc, ← hptr]
  rfl

/-- A turn of the burst with a byte left and room for it. -/
theorem slaveBurst_turn {n : Nat} (hn : 0 < n) (hrem : 0 < s.i2cd.txRem) (hroom : s.sl.txf.length < s.cfg.fifoDepth) :
    slaveBurst n s = slaveTxByte s >>= slaveBurst (n - 1) := by
  obtain ⟨m, rfl⟩ := Nat.exists_eq_succ_of_ne_zero hn.ne'
  have hturn : (decide (0 < s.i2cd.txRem) && decide (s.sl.txf.length < s.cfg.fifoDepth)) = true := by
    simp [hrem, hroom]
  rw [slaveBurst, if_pos hturn]
  rfl

/-- The burst ends when no byte is left, or the FIFO is full. -/
theorem slaveBurst_end (n : Nat) (hend : s.i2cd.txRem = 0 ∨ s.cfg.fifoDepth ≤ s.sl.txf.length) :
    slaveBurst n s = .ok s := by
  cases n with
  | zero => rfl
  | succ n =>
    have hlast : ¬(decide (0 < s.i2cd.txRem) && decide (s.sl.txf.length < s.cfg.fifoDepth)) = true := by
      simp only [Bool.and_eq_true, decide_eq_true_eq]
      omega
    rw [slaveBurst, if_neg hlast]

/-- The first `k` turns of the burst send `k` bytes. -/
theorem slaveBurst_eq_slaveSent {k n : Nat} (hn : k ≤ n) (hrem : k ≤ s.i2cd.txRem)
    (hroom : s.sl.txf.length + k ≤ s.cfg.fifoDepth)
    (hdecl : ∀ i < k, declared s (s.i2cd.txPtr + BitVec.ofNat 32 i) = true) :
    slaveBurst n s = slaveBurst (n - k) (slaveSent k s) := by
  induction k with
  | zero => rw [slaveSent_zero, Nat.sub_zero]
  | succ k ih =>
    have hleft : 0 < (slaveSent k s).i2cd.txRem := Nat.sub_pos_of_lt hrem
    have hfree : (slaveSent k s).sl.txf.length < (slaveSent k s).cfg.fifoDepth := by
      rw [length_slaveSent_txf]
      exact hroom
    rw [ih (by omega) (by omega) (by omega) fun i hi => hdecl i (by omega), slaveBurst_turn (by omega) hleft hfree,
      slaveTxByte_slaveSent (by omega) (hdecl k (by omega)), Nat.sub_sub]
    rfl

/-- R410: the burst of an empty FIFO sends as many bytes as the call has or the FIFO holds. -/
theorem slaveBurst_ok (hempty : s.sl.txf = [])
    (hdecl : ∀ i < min s.i2cd.txRem s.cfg.fifoDepth, declared s (s.i2cd.txPtr + BitVec.ofNat 32 i) = true) :
    slaveBurst s.i2cd.txRem s = .ok (slaveSent (min s.i2cd.txRem s.cfg.fifoDepth) s) := by
  have hlength : s.sl.txf.length = 0 := by rw [hempty]; rfl
  have hend : (slaveSent (min s.i2cd.txRem s.cfg.fifoDepth) s).i2cd.txRem = 0 ∨
      s.cfg.fifoDepth ≤ (slaveSent (min s.i2cd.txRem s.cfg.fifoDepth) s).sl.txf.length := by
    rw [length_slaveSent_txf]
    simp only [slaveSent]
    omega
  rw [slaveBurst_eq_slaveSent (by omega) (by omega) (by omega) hdecl]
  exact slaveBurst_end _ hend

/-- R120: the burst stops at the first byte outside every declared region. -/
theorem slaveBurst_stuck (hempty : s.sl.txf = [])
    (hundeclared : ∃ i < min s.i2cd.txRem s.cfg.fifoDepth,
      declared s (s.i2cd.txPtr + BitVec.ofNat 32 i) = false) :
    slaveBurst s.i2cd.txRem s = .error .stuck := by
  have hlength : s.sl.txf.length = 0 := by rw [hempty]; rfl
  obtain ⟨hk, hdecl⟩ := Nat.find_spec hundeclared
  have hfirst := fun i => Nat.find_min (H := hundeclared) (m := i)
  generalize Nat.find hundeclared = k at hk hdecl hfirst
  have hbefore : ∀ i < k, declared s (s.i2cd.txPtr + BitVec.ofNat 32 i) = true := fun i hi =>
    eq_true_of_ne_false fun hfalse => hfirst i hi ⟨hi.trans hk, hfalse⟩
  have hleft : 0 < (slaveSent k s).i2cd.txRem := Nat.sub_pos_of_lt (by omega)
  have hfree : (slaveSent k s).sl.txf.length < (slaveSent k s).cfg.fifoDepth := by
    rw [length_slaveSent_txf]
    change _ < s.cfg.fifoDepth
    omega
  rw [slaveBurst_eq_slaveSent (by omega) (by omega) (by omega) hbefore, slaveBurst_turn (by omega) hleft hfree,
    slaveTxByte_of_undeclared (s := slaveSent k s) hdecl]
  rfl

end

/-! ### I2C_SlaveTransmit (43_i2c_slave.md R410) -/

section
variable {buf : Addr} {size : U16} {s t : State}

/-- The engine part done, a slave transmit comes to its end. -/
theorem runsTo_slaveTransmitIdle
    (hengine : RunsTo (fun u => slaveTransmitEngine buf size (slaveTransmitFields buf size u)) s t)
    (hsem : t.i2cd.sem = false) :
    RunsTo (slaveTransmitIdle buf size) s (launchedCall 0x4A#8 (slaveRelease t)) :=
  hengine.bind (runsTo_slaveRelease hsem)

/-- TXREQ enabled. -/
def slaveTxEnabled (s : State) : State := { s with sl := { s.sl with ie := { s.sl.ie with txreq := true } } }

/-- The transmit channel started, with its request enabled. -/
def slaveTxStarted (buf : Addr) (size : U16) (s : State) : State :=
  let u := dmaStart .stx buf size.toNat s
  { u with sl := { u.sl with dmaTx := true } }

theorem slaveTxStarted_enterCritical (buf : Addr) (size : U16) (s : State) :
    slaveTxStarted buf size (enterCritical s) = enterCritical (slaveTxStarted buf size s) :=
  congrArg (fun u : State => { u with sl := { u.sl with dmaTx := true } })
    (dmaStart_enterCritical .stx buf size.toNat s)

theorem slaveRelease_slaveTxStarted (buf : Addr) (size : U16) (s : State) :
    slaveRelease (slaveTxStarted buf size s) = slaveTxStarted buf size (slaveRelease s) :=
  congrArg (fun u : State => { u with sl := { u.sl with dmaTx := true } }) (slaveRelease_dmaStart .stx buf size.toNat s)

/-- In PIO mode the engine part is the burst, and then TXREQ is enabled. -/
theorem slaveTransmitEngine_pio (hpio : s.i2cd.engine = .pio) :
    slaveTransmitEngine buf size s = (slaveBurst size.toNat s).map slaveTxEnabled := by
  rw [slaveTransmitEngine, if_pos hpio]
  cases slaveBurst size.toNat s <;> rfl

/-- In DMA mode it is the start of the transmit channel. -/
theorem slaveTransmitEngine_dma (hdma : s.i2cd.engine = .dma) :
    slaveTransmitEngine buf size s = .ok (slaveTxStarted buf size s) := by
  rw [slaveTransmitEngine, if_neg (by rw [hdma]; decide)]
  rfl

theorem runsTo_slaveTransmitEngine_pio (hpio : s.i2cd.engine = .pio)
    (hdecl : ∀ k < min size.toNat s.cfg.fifoDepth, declared s (buf + BitVec.ofNat 32 k) = true) :
    RunsTo (fun u => slaveTransmitEngine buf size (slaveTransmitFields buf size u)) s
      (slaveTxEnabled (slaveSent (min size.toNat s.cfg.fifoDepth) (slaveTransmitFields buf size s))) := by
  have hburst := slaveBurst_ok (s := slaveTransmitFields buf size (enterCritical s)) rfl hdecl
  refine ⟨(slaveTransmitEngine_pio (s := slaveTransmitFields buf size (enterCritical s)) hpio).trans ?_, rfl⟩
  exact congrArg (Except.map _) hburst

theorem runsTo_slaveTransmitEngine_dma (hdma : s.i2cd.engine = .dma) :
    RunsTo (fun u => slaveTransmitEngine buf size (slaveTransmitFields buf size u)) s
      (slaveTxStarted buf size (slaveTransmitFields buf size s)) := by
  obtain ⟨_, hmain, _⟩ := dmaStart_frame .stx buf size.toNat (slaveTransmitFields buf size s)
  refine ⟨(slaveTransmitEngine_dma (s := slaveTransmitFields buf size (enterCritical s)) hdma).trans ?_,
    congrArg MainCtx.crit hmain⟩
  exact congrArg Except.ok (slaveTxStarted_enterCritical buf size (slaveTransmitFields buf size s))

theorem slaveTransmitIdle_undeclared (hpio : s.i2cd.engine = .pio)
    (hundeclared : ∃ k < min size.toNat s.cfg.fifoDepth, declared s (buf + BitVec.ofNat 32 k) = false) :
    slaveTransmitIdle buf size s = .error .stuck := by
  have hburst := slaveBurst_stuck (s := slaveTransmitFields buf size s) rfl hundeclared
  have hengine : slaveTransmitEngine buf size (slaveTransmitFields buf size s) = .error .stuck :=
    (slaveTransmitEngine_pio (s := slaveTransmitFields buf size s) hpio).trans (congrArg (Except.map _) hburst)
  rw [slaveTransmitIdle, hengine]
  rfl

end

/-- Settles O46: the burst, sent or stuck, or the start of the channel, and then the end of the call. -/
theorem slaveTransmit : Obligations.SlaveTransmit := by
  intro buf size s hs hopen
  have ⟨_, hcrit, _, _⟩ := hs
  have hexec : exec (.i2cSlaveTransmit 0#8 buf size) s =
      finishMain s (slaveTransmitIdle buf size (enterCritical s)) :=
    slaveCall_idle hs hopen
  rw [hexec]
  refine ⟨fun hpio hdecl => ?_, fun hpio hundeclared => ?_, fun hdma => ?_⟩
  · exact (runsTo_slaveTransmitIdle (runsTo_slaveTransmitEngine_pio hpio hdecl) rfl).finishMain_eq hcrit
  · exact congrArg (finishMain s) (slaveTransmitIdle_undeclared (s := enterCritical s) hpio hundeclared)
  · obtain ⟨_, _, hsem⟩ := dmaStart_frame .stx buf size.toNat (slaveTransmitFields buf size s)
    rw [(runsTo_slaveTransmitIdle (runsTo_slaveTransmitEngine_dma hdma) hsem).finishMain_eq hcrit,
      slaveRelease_slaveTxStarted]
    rfl

end Sys2Proof.Machine

/-! The events of the slave bus engine (43_i2c_slave.md R420 to R427): the engine and the trace that each leaves where
it is enabled. -/

namespace Sys2Proof.Machine

open Sys2Proof.Cert

/-! ### What each of them runs -/

theorem exec_sAddrMatch (d : Dir) (s : State) : exec (.sAddrMatch d) s = execSAddrMatch d s := rfl

theorem exec_sRxByte (b : Byte) (s : State) : exec (.sRxByte b) s = execSRxByte b s := rfl

theorem exec_sTxByte (s : State) : exec .sTxByte s = execSTxByte s := rfl

theorem exec_sTxUnderflow (s : State) : exec .sTxUnderflow s = execSTxUnderflow s := rfl

theorem exec_sRepstart (d : Dir) (s : State) : exec (.sRepstart d) s = execSRepstart d s := rfl

theorem exec_sStop (s : State) : exec .sStop s = execSStop s := rfl

theorem exec_sGcall (b : Byte) (s : State) : exec (.sGcall b) s = execSGcall b s := rfl

/-! ### When they are enabled -/

section
variable {s : State}

theorem slaveAddressable_of_enabled (hen : s.sl.en = true) (hidle : s.sl.busy = false) : slaveAddressable s = true := by
  simp [slaveAddressable, hen, hidle]

theorem slaveMoving_of_busy (hbusy : s.sl.busy = true) (hhold : s.sl.clockHold = false)
    (hrepstart : s.sl.repstart = false) : slaveMoving s = true := by
  simp [slaveMoving, hbusy, hhold, hrepstart]

end

/-- R427: the address bytes that the engine shows are those of its own address. -/
theorem slaveAddressEvents_eq (d : Dir) (s : State) : slaveAddressEvents d s = slaveAddressShown d s.sl := rfl

/-- Settles O53: each event is enabled, and its effect is the stated state. -/
theorem slaveAddressEvents_enabled : Obligations.SlaveAddressEvents := by
  refine fun d b s => ⟨fun hen hidle => ?_, fun hbusy hhold hrepstart => ?_⟩
  · have henabled := slaveAddressable_of_enabled hen hidle
    constructor
    · rw [exec_sAddrMatch, execSAddrMatch, eventStep_update henabled, slaveAddressEvents_eq]
      rfl
    · rw [exec_sGcall, execSGcall, eventStep_update henabled]
      rfl
  · have henabled := slaveMoving_of_busy hbusy hhold hrepstart
    constructor
    · rw [exec_sRepstart, execSRepstart, eventStep_update henabled, slaveAddressEvents_eq]
      rfl
    · rw [exec_sStop, execSStop, eventStep_update henabled]
      rfl

/-! ### The data events (43_i2c_slave.md R421 to R423) -/

section
variable {b : Byte} {f : List Byte} {s : State}

theorem pushSRx_of_room (hroom : s.sl.rxf.length < s.cfg.fifoDepth) :
    pushSRx b s = .ok { s with sl := { s.sl with rxf := s.sl.rxf ++ [b] } } := by
  simp [pushSRx, pushFifo, hroom]

theorem popSTx_of_cons (htxf : s.sl.txf = b :: f) : popSTx s = .ok (b, { s with sl := { s.sl with txf := f } }) := by
  simp [popSTx, popFifo, htxf]

/-- R423: an underflow shows the byte drawn, and changes nothing else but the environment. -/
theorem exec_sTxUnderflow_enabled (hmoving : slaveMoving s = true) (hdir : s.sl.dir = .R) (hempty : s.sl.txf = []) :
    exec .sTxUnderflow s = .next (emit [.data (drawBits 8 s).1, .ack] (drawBits 8 s).2) := by
  have henabled : (slaveMoving s && s.sl.dir == .R && s.sl.txf.length == 0) = true := by
    simp [hmoving, hdir, hempty]
  rw [exec_sTxUnderflow, execSTxUnderflow]
  exact eventStep_update (enabled := fun t => slaveMoving t && t.sl.dir == .R && t.sl.txf.length == 0) henabled

end

/-- Settles O54: each event is enabled, its FIFO has the byte or the room, and the draw is the witness of an
underflow. -/
theorem slaveDataEvents : Obligations.SlaveDataEvents := by
  intro b s hbusy hhold hrepstart
  have hmoving := slaveMoving_of_busy hbusy hhold hrepstart
  refine ⟨fun hdir hroom => ?_, fun f hdir htxf => ?_, fun hdir hempty => ?_⟩
  · have henabled : (slaveMoving s && s.sl.dir == .W && decide (s.sl.rxf.length < s.cfg.fifoDepth)) = true := by
      simp [hmoving, hdir, hroom]
    rw [exec_sRxByte]
    refine eventStep_of_run henabled ?_
    rw [pushSRx_of_room hroom]
    rfl
  · have henabled : (slaveMoving s && s.sl.dir == .R && decide (0 < s.sl.txf.length)) = true := by
      simp [hmoving, hdir, htxf]
    rw [exec_sTxByte]
    refine eventStep_of_run henabled ?_
    rw [popSTx_of_cons htxf]
    rfl
  · rw [exec_sTxUnderflow_enabled hmoving hdir hempty]
    refine ⟨?_, fun rest htape => ?_⟩
    · obtain ⟨env, hdrawn, _, _⟩ := drawBits_state 8 s
      rw [hdrawn]
      exact ⟨_, env, rfl⟩
    · rw [drawBits_of_tape htape]
      rfl

end Sys2Proof.Machine

/-! The slave interrupt handler (43_i2c_slave.md R430 to R436): a pass is its FIFO services, then those of the latched
bits, then its exit, and each is one update of the state. -/

namespace Sys2Proof.Machine

open Sys2Proof.Cert

/-! ### The parts of a pass (43_i2c_slave.md R430) -/

/-- The receive service, when it is due. -/
def rxPass (p : Pass) : Except Stop Pass := if p.st.sl.ie.rxreq && rxreqS p.st then onSlaveRx p else .ok p

/-- The transmit service, when it is due. -/
def txPass (p : Pass) : Except Stop Pass := if p.st.sl.ie.txreq && txreqS p.st then onSlaveTx p else .ok p

/-- The services of the latched bits. -/
def latchPass (p : Pass) : Pass := passGcall (passStop (passRepstart p))

/-- A pass at its start. -/
def passStart (s : State) : Pass := { st := s, exit := none, noted := false }

/-- A service that is made only when it is due, and then the rest of the pass. -/
theorem ite_bind_ok {α β : Type} {c : Prop} [Decidable c] (x : Except Stop α) (a : α) (rest : α → Except Stop β) :
    (if c then x >>= rest else .ok a >>= rest) = (if c then x else .ok a) >>= rest :=
  (apply_ite (· >>= rest) c x (.ok a)).symm

theorem slaveService_eq (s : State) :
    slaveService s = rxPass (passStart s) >>= txPass >>= fun p => .ok (passExit (latchPass p)) := by
  simp only [slaveService, ite_bind_ok, bind_assoc]
  rfl

/-! ### The receive service (43_i2c_slave.md R431) -/

section
variable {s : State}

/-- The state after the receive service of a pass. -/
def rxServed (s : State) : State :=
  { s with
    mem := if storesByte s then Memory.write s.mem s.i2cd.rxPtr.toNat (s.sl.rxf.headD 0#8) else s.mem
    sl := { s.sl with rxf := if rxDue s then s.sl.rxf.tail else s.sl.rxf }
    i2cd :=
      { s.i2cd with
        rxPtr := if storesByte s then s.i2cd.rxPtr + 1#32 else s.i2cd.rxPtr
        rxRem := if storesByte s then s.i2cd.rxRem - 1 else s.i2cd.rxRem
        rxFilled := if storesByte s then s.i2cd.rxFilled + 1 else s.i2cd.rxFilled } }

/-- The pass after the receive service: the exit is set where the last byte of the call was stored. -/
def rxPassed (s : State) : Pass :=
  { st := rxServed s, exit := if storesByte s && s.i2cd.rxRem == 1 then some .success else none, noted := false }

theorem rxDue_eq (s : State) : rxDue s = (s.sl.ie.rxreq && rxreqS s) := by
  unfold rxDue rxreqS
  cases s.sl.rxf <;> simp

theorem rxPass_due {p : Pass} (hdue : rxDue p.st = true) : rxPass p = onSlaveRx p :=
  if_pos ((rxDue_eq p.st).symm.trans hdue)

theorem rxPass_not_due {p : Pass} (hdue : rxDue p.st = false) : rxPass p = .ok p :=
  if_neg (ne_true_of_eq_false ((rxDue_eq p.st).symm.trans hdue))

theorem popSRx_of_cons {b : Byte} {f : List Byte} (hrxf : s.sl.rxf = b :: f) :
    popSRx s = .ok (b, { s with sl := { s.sl with rxf := f } }) := by
  simp [popSRx, popFifo, hrxf]

theorem storesByte_iff :
    storesByte s = true ↔ rxDue s = true ∧ s.i2cd.complete = false ∧ 0 < s.i2cd.rxRem := by
  simp [storesByte, and_assoc]

theorem exists_cons_of_rxDue (hdue : rxDue s = true) : ∃ b f, s.sl.rxf = b :: f := by
  have hbyte : s.sl.ie.rxreq = true ∧ s.sl.rxf ≠ [] := by simpa [rxDue] using hdue
  exact List.exists_cons_of_ne_nil hbyte.2

/-- A due receive service takes the byte, and stores it where a receive is active. -/
theorem rxPass_of_due {b : Byte} {f : List Byte} (hdue : rxDue s = true) (hrxf : s.sl.rxf = b :: f) :
    rxPass (passStart s) =
      if storesByte s then do
        let t ← storeSlaveByte b { s with sl := { s.sl with rxf := f } }
        let q := { passStart s with st := t }
        .ok (if t.i2cd.rxRem = 0 then q.exitIfNone .success else q)
      else .ok { passStart s with st := { s with sl := { s.sl with rxf := f } } } := by
  have hstores : storesByte s = (!s.i2cd.complete && decide (0 < s.i2cd.rxRem)) := by
    rw [storesByte, hdue, Bool.true_and]
  rw [rxPass_due hdue, onSlaveRx, hstores]
  change (popSRx s >>= _) = _
  rw [popSRx_of_cons hrxf]
  rfl

theorem rxPass_ok (hdecl : storesByte s = true → declared s s.i2cd.rxPtr = true) :
    rxPass (passStart s) = .ok (rxPassed s) := by
  cases hdue : rxDue s with
  | false =>
    have hnone : storesByte s = false := by rw [storesByte, hdue]; rfl
    rw [rxPass_not_due hdue]
    simp only [rxPassed, rxServed, hdue, hnone]
    rfl
  | true =>
    obtain ⟨b, f, hrxf⟩ := exists_cons_of_rxDue hdue
    rw [rxPass_of_due hdue hrxf]
    cases hstores : storesByte s with
    | false =>
      simp only [rxPassed, rxServed, hdue, hstores, hrxf]
      rfl
    | true =>
      have hwrite : memWrite s.i2cd.rxPtr b { s with sl := { s.sl with rxf := f } } =
          .ok { s with sl := { s.sl with rxf := f }, mem := Memory.write s.mem s.i2cd.rxPtr.toNat b } :=
        if_pos (hdecl hstores)
      obtain ⟨_, _, hrem⟩ := storesByte_iff.1 hstores
      have hlast : s.i2cd.rxRem - 1 = 0 ↔ s.i2cd.rxRem = 1 := by omega
      rw [if_pos rfl, storeSlaveByte, hwrite]
      simp only [rxPassed, rxServed, hdue, hstores, hrxf, Bool.true_and, beq_iff_eq, ← hlast]
      change Except.ok (if s.i2cd.rxRem - 1 = 0 then _ else _) = _
      split <;> rfl

theorem rxPass_stuck (hstores : storesByte s = true) (hdecl : declared s s.i2cd.rxPtr = false) :
    rxPass (passStart s) = .error .stuck := by
  obtain ⟨hdue, _, _⟩ := storesByte_iff.1 hstores
  obtain ⟨b, f, hrxf⟩ := exists_cons_of_rxDue hdue
  have hwrite : memWrite s.i2cd.rxPtr b { s with sl := { s.sl with rxf := f } } = .error .stuck :=
    if_neg (ne_true_of_eq_false hdecl)
  rw [rxPass_of_due hdue hrxf, if_pos hstores, storeSlaveByte, hwrite]
  rfl

end

/-! ### The transmit service (43_i2c_slave.md R432) -/

section
variable {p : Pass} {s : State}

/-- The state after the transmit service of a pass. -/
def txServed (s : State) : State :=
  { s with
    sl :=
      { s.sl with
        txf := if sendsByte s then s.sl.txf ++ [Memory.read s.mem s.i2cd.txPtr.toNat] else s.sl.txf
        ie := { s.sl.ie with txreq := s.sl.ie.txreq && !(txDue s && s.i2cd.txRem == 0) } }
    i2cd :=
      { s.i2cd with
        txPtr := if sendsByte s then s.i2cd.txPtr + 1#32 else s.i2cd.txPtr
        txRem := if sendsByte s then s.i2cd.txRem - 1 else s.i2cd.txRem } }

/-- The pass after the transmit service: an exit is set where no byte is left to send. -/
def txPassed (p : Pass) : Pass :=
  { p with
    st := txServed p.st
    exit := if txDue p.st && p.st.i2cd.txRem == 0 then some (p.exit.getD .success) else p.exit }

theorem sendsByte_iff : sendsByte s = true ↔ txDue s = true ∧ 0 < s.i2cd.txRem := by
  simp [sendsByte]

/-- R64: a transmit request is made only where the FIFO has room. -/
theorem room_of_txDue (hdue : txDue s = true) : s.sl.txf.length < s.cfg.fifoDepth := by
  simp only [txDue, txreqS, Bool.and_eq_true, decide_eq_true_eq] at hdue
  obtain ⟨_, _, hroom⟩ := hdue
  exact hroom

theorem txPass_due (hdue : txDue p.st = true) : txPass p = onSlaveTx p :=
  if_pos hdue

theorem txPass_not_due (hdue : txDue p.st = false) : txPass p = .ok p :=
  if_neg (ne_true_of_eq_false hdue)

theorem txPass_ok (hdecl : sendsByte p.st = true → declared p.st p.st.i2cd.txPtr = true) :
    txPass p = .ok (txPassed p) := by
  cases hdue : txDue p.st with
  | false =>
    have hnone : sendsByte p.st = false := by rw [sendsByte, hdue]; rfl
    rw [txPass_not_due hdue]
    simp only [txPassed, txServed, hdue, hnone, Bool.false_and, Bool.not_false, Bool.and_true]
    rfl
  | true =>
    rw [txPass_due hdue, onSlaveTx]
    by_cases hrem : 0 < p.st.i2cd.txRem
    · have hsend : sendsByte p.st = true := sendsByte_iff.2 ⟨hdue, hrem⟩
      have hleft : (p.st.i2cd.txRem == 0) = false := beq_eq_false_iff_ne.2 hrem.ne'
      rw [if_pos hrem, slaveTxByte_of_declared (hdecl hsend) (room_of_txDue hdue)]
      simp only [txPassed, txServed, hdue, hsend, hleft, Bool.and_false, Bool.not_false, Bool.and_true]
      rfl
    · have hkept : sendsByte p.st = false := eq_false_of_ne_true fun h => hrem (sendsByte_iff.1 h).2
      have hnone : (p.st.i2cd.txRem == 0) = true := beq_iff_eq.2 (Nat.eq_zero_of_not_pos hrem)
      rw [if_neg hrem]
      simp only [txPassed, txServed, hdue, hkept, hnone, Bool.and_true, Bool.not_true, Bool.and_false]
      rfl

theorem txPass_stuck (hsends : sendsByte p.st = true) (hdecl : declared p.st p.st.i2cd.txPtr = false) :
    txPass p = .error .stuck := by
  obtain ⟨hdue, hrem⟩ := sendsByte_iff.1 hsends
  rw [txPass_due hdue, onSlaveTx, if_pos hrem, slaveTxByte_of_undeclared hdecl]
  rfl

end

/-! ### Both FIFO services -/

section
variable {s : State}

/-- The pass after its FIFO services. -/
def fifosPassed (s : State) : Pass :=
  { st := fifosServed s, exit := if countExhausted s then some .success else none, noted := false }

/-- The receive service comes first, and the transmit service works on what it leaves. -/
theorem txPassed_rxPassed (s : State) : txPassed (rxPassed s) = fifosPassed s := by
  have hexit : (txPassed (rxPassed s)).exit = (fifosPassed s).exit := by
    change (if txDue s && s.i2cd.txRem == 0 then
        some ((if storesByte s && s.i2cd.rxRem == 1 then some I2CResult.success else none).getD .success)
      else if storesByte s && s.i2cd.rxRem == 1 then some .success else none) =
      if countExhausted s then some .success else none
    rw [countExhausted]
    cases storesByte s && s.i2cd.rxRem == 1 <;> cases txDue s && s.i2cd.txRem == 0 <;> rfl
  exact congrArg (fun e => ({ st := fifosServed s, exit := e, noted := false } : Pass)) hexit

theorem fifos_ok (hdecl : SlaveAccessDeclared s) : (rxPass (passStart s) >>= txPass) = .ok (fifosPassed s) := by
  obtain ⟨hstores, hsends⟩ := hdecl
  rw [rxPass_ok hstores]
  exact (txPass_ok (p := rxPassed s) hsends).trans (congrArg Except.ok (txPassed_rxPassed s))

/-- R120: an access outside every declared region stops the pass. -/
theorem fifos_stuck (hundeclared : ¬SlaveAccessDeclared s) : (rxPass (passStart s) >>= txPass) = .error .stuck := by
  by_cases hstores : storesByte s = true → declared s s.i2cd.rxPtr = true
  · have hsends : ¬(sendsByte s = true → declared s s.i2cd.txPtr = true) := fun h => hundeclared ⟨hstores, h⟩
    obtain ⟨hsend, hdecl⟩ := Classical.not_imp.1 hsends
    rw [rxPass_ok hstores]
    exact txPass_stuck (p := rxPassed s) hsend (eq_false_of_ne_true hdecl)
  · obtain ⟨hstore, hdecl⟩ := Classical.not_imp.1 hstores
    rw [rxPass_stuck hstore (eq_false_of_ne_true hdecl)]
    rfl

end

/-! ### The progress of the channel (44_i2c_dma.md R466, R467) -/

/-- The counts brought up to date from the current channel, and the channel stopped. -/
def channelNoted (s : State) : State :=
  let c := s.i2cd.curCh
  { s with
    i2cd :=
      { s.i2cd with
        txRem := if toPeriph s c then dmaRemaining s c else s.i2cd.txRem
        rxRem := if toPeriph s c then s.i2cd.rxRem else dmaRemaining s c
        rxFilled := if c = .srx then s.i2cd.xferLen - dmaRemaining s c else s.i2cd.rxFilled
        unsched := 0 }
    dma :=
      s.dma.set c
        { s.dma.get c with
          pri := Desc.inactive (toPeriph s c), alt := Desc.inactive (toPeriph s c), enabled := false
          done := false } }

/-- The slave's requests to its channels turned off (R435). -/
def requestsOff (s : State) : State := { s with sl := { s.sl with dmaTx := false, dmaRx := false } }

/-- The call in progress is a DMA transfer. -/
abbrev DmaActive (s : State) : Prop := s.i2cd.engine = .dma ∧ s.i2cd.complete = false

theorem dmaActive_iff (s : State) : (s.i2cd.engine == .dma && !s.i2cd.complete) = true ↔ DmaActive s := by
  simp [DmaActive]

/-- R466: the channel's counts are noted, and then it is stopped. -/
theorem dmaStop_noteFilled_dmaSyncRem (s : State) :
    dmaStop s.i2cd.curCh (noteFilled s.i2cd.curCh (dmaSyncRem s.i2cd.curCh s)) = channelNoted s := by
  cases hc : s.i2cd.curCh with
  | m =>
    cases hrx : s.i2cd.sharedIsRx <;>
      simp [channelNoted, dmaSyncRem, noteFilled, dmaStop, toPeriph, State.setChannel, hc, hrx]
  | stx => simp [channelNoted, dmaSyncRem, noteFilled, dmaStop, toPeriph, State.setChannel, hc]
  | srx => simp [channelNoted, dmaSyncRem, noteFilled, dmaStop, toPeriph, State.setChannel, hc]

/-- What the exit of a pass makes of a state in which the progress of the DMA transfer has been noted or not: it is noted
where it has not been, and the requests are turned off (R435). -/
def settled (noted : Bool) (s : State) : State :=
  if DmaActive s then requestsOff (if noted then s else channelNoted s) else s

theorem settled_false (s : State) : settled false s = progressNoted s := rfl

theorem dmaNoteSlaveProgress_of_noted {p : Pass} (hnoted : p.noted = true) : dmaNoteSlaveProgress p = p :=
  if_pos hnoted

theorem dmaNoteSlaveProgress_of_unnoted {p : Pass} (hnoted : p.noted = false) :
    dmaNoteSlaveProgress p = { p with st := channelNoted p.st, noted := true } := by
  rw [dmaNoteSlaveProgress, if_neg (ne_true_of_eq_false hnoted), ← dmaStop_noteFilled_dmaSyncRem]

theorem dmaNoteSlaveProgress_st (p : Pass) :
    (dmaNoteSlaveProgress p).st = if p.noted then p.st else channelNoted p.st := by
  cases hnoted : p.noted with
  | true => rw [dmaNoteSlaveProgress_of_noted hnoted]; rfl
  | false => rw [dmaNoteSlaveProgress_of_unnoted hnoted]; rfl

/-- The FIFO requests of the slave turned off (R435). -/
def fifoRequestsOff (s : State) : State :=
  { s with sl := { s.sl with ie := { s.sl.ie with rxreq := false, txreq := false } } }

/-- R435: a pass that exits ends the call. -/
theorem slaveExit_eq (r : I2CResult) (p : Pass) :
    slaveExit r p = signalCompletion r (fifoRequestsOff (settled p.noted p.st)) := by
  have hst := dmaNoteSlaveProgress_st { p with st := fifoRequestsOff p.st }
  unfold slaveExit
  dsimp only
  rw [settled]
  by_cases hactive : DmaActive p.st
  · rw [if_pos hactive, if_pos ((dmaActive_iff _).2 hactive)]
    change signalCompletion r (requestsOff (dmaNoteSlaveProgress { p with st := fifoRequestsOff p.st }).st) = _
    rw [hst]
    cases p.noted <;> rfl
  · rw [if_neg hactive, if_neg (mt (dmaActive_iff _).1 hactive)]
    rfl

/-! ### What an update of the state leaves of the progress -/

section
variable {update : State → State}

/-- An update that does not touch a DMA transfer can be made before its progress is noted or after. -/
theorem settled_update (hoff : ∀ s, requestsOff (update s) = update (requestsOff s))
    (hnote : ∀ s, channelNoted (update s) = update (channelNoted s))
    (hactive : ∀ s, DmaActive (update s) ↔ DmaActive s) (noted : Bool) (s : State) :
    settled noted (update s) = update (settled noted s) := by
  unfold settled
  simp only [hactive]
  split
  · cases noted with
    | true => exact hoff s
    | false => exact (congrArg requestsOff (hnote s)).trans (hoff _)
  · rfl

/-- The progress is noted once: where the pass has tried to note it, any update of the counts comes after. -/
theorem settled_noteIfDma (hoff : ∀ s, requestsOff (update s) = update (requestsOff s))
    (hactive : ∀ s, DmaActive (update s) ↔ DmaActive s) (p : Pass) :
    settled (noteIfDma p).noted (update (noteIfDma p).st) = update (settled p.noted p.st) := by
  by_cases hdma : DmaActive p.st
  · rw [noteIfDma, if_pos ((dmaActive_iff _).2 hdma), settled, settled, if_pos hdma]
    cases hnoted : p.noted with
    | true =>
      rw [dmaNoteSlaveProgress_of_noted hnoted, if_pos ((hactive _).2 hdma), hnoted]
      exact hoff _
    | false =>
      have hkept : DmaActive (channelNoted p.st) := hdma
      rw [dmaNoteSlaveProgress_of_unnoted hnoted, if_pos ((hactive _).2 hkept)]
      exact hoff _
  · rw [noteIfDma, if_neg (mt (dmaActive_iff _).1 hdma), settled, settled, if_neg hdma, if_neg (mt (hactive _).1 hdma)]

end

section
variable (noted : Bool) (s : State)

/-- The bits that a pass may find latched. -/
def latchesOf (s : State) : Bool × Bool × Bool := (s.sl.repstart, s.sl.stop, s.sl.gcall)

theorem settled_latches : latchesOf (settled noted s) = latchesOf s := by
  unfold settled
  split
  · cases noted <;> rfl
  · rfl

theorem settled_repstart : (settled noted s).sl.repstart = s.sl.repstart :=
  congrArg Prod.fst (settled_latches noted s)

theorem settled_gcall : (settled noted s).sl.gcall = s.sl.gcall :=
  congrArg (fun l => l.2.2) (settled_latches noted s)

theorem noteIfDma_sl (p : Pass) : (noteIfDma p).st.sl = p.st.sl := by
  unfold noteIfDma
  split
  · rw [dmaNoteSlaveProgress_st]
    split <;> rfl
  · rfl

theorem noteIfDma_exit (p : Pass) : (noteIfDma p).exit = p.exit := by
  unfold noteIfDma dmaNoteSlaveProgress
  split
  · split <;> rfl
  · rfl

end

/-! ### The repeat start (43_i2c_slave.md R433) -/

/-- The repeat start cleared, with the clock hold that it asserts where it is armed. -/
def repstartHeld (s : State) : State :=
  { s with
    sl := { s.sl with repstart := false, clockHold := s.sl.clockHold || s.i2cd.clockStretch }
    i2cd := { s.i2cd with clockStretch := false } }

/-- Both counts of the call zeroed. -/
def countsZeroed (s : State) : State := { s with i2cd := { s.i2cd with txRem := 0, rxRem := 0 } }

theorem stretchHold_repstartCleared (s : State) :
    stretchHold { s with sl := { s.sl with repstart := false } } = repstartHeld s := by
  cases hstretch : s.i2cd.clockStretch with
  | true => simp [stretchHold, repstartHeld, hstretch]
  | false =>
    have hdriver : { s.i2cd with clockStretch := false } = s.i2cd := by rw [← hstretch]
    simp [stretchHold, repstartHeld, hstretch, hdriver]

theorem passRepstart_of_latched {p : Pass} (hlatched : p.st.sl.repstart = true) :
    passRepstart p =
      let q := noteIfDma { p with st := repstartHeld p.st }
      { q with st := countsZeroed q.st, exit := some .slaveRepeatStart } := by
  rw [passRepstart, if_pos hlatched, onSlaveRepstart, stretchHold_repstartCleared]
  rfl

theorem passRepstart_of_unlatched {p : Pass} (hlatched : p.st.sl.repstart = false) : passRepstart p = p :=
  if_neg (ne_true_of_eq_false hlatched)

/-- The service of a latched repeat start. -/
def repstartServed (s : State) : State := if s.sl.repstart then countsZeroed (repstartHeld s) else s

theorem settled_passRepstart (p : Pass) :
    settled (passRepstart p).noted (passRepstart p).st = repstartServed (settled p.noted p.st) := by
  rw [repstartServed, settled_repstart]
  cases hlatched : p.st.sl.repstart with
  | true =>
    rw [passRepstart_of_latched hlatched, if_pos rfl,
      ← settled_update (update := repstartHeld) (fun _ => rfl) (fun _ => rfl) fun _ => Iff.rfl]
    exact settled_noteIfDma (update := countsZeroed) (fun _ => rfl) (fun _ => Iff.rfl) _
  | false => rw [passRepstart_of_unlatched hlatched, if_neg Bool.false_ne_true]

/-- A repeat start leaves the other latched bits to the rest of the pass. -/
theorem passRepstart_latches (p : Pass) :
    (passRepstart p).st.sl.stop = p.st.sl.stop ∧ (passRepstart p).st.sl.gcall = p.st.sl.gcall := by
  cases hlatched : p.st.sl.repstart with
  | true =>
    have hsl := noteIfDma_sl { p with st := repstartHeld p.st }
    rw [passRepstart_of_latched hlatched]
    exact ⟨(congrArg SlaveHw.stop hsl :), (congrArg SlaveHw.gcall hsl :)⟩
  | false => rw [passRepstart_of_unlatched hlatched]; exact ⟨rfl, rfl⟩

theorem passRepstart_exit (p : Pass) :
    (passRepstart p).exit = if p.st.sl.repstart then some .slaveRepeatStart else p.exit := by
  cases hlatched : p.st.sl.repstart with
  | true => rw [passRepstart_of_latched hlatched]; rfl
  | false => rw [passRepstart_of_unlatched hlatched]; rfl

/-! ### The stop (43_i2c_slave.md R434) -/

/-- The stop cleared. -/
def stopServed (s : State) : State := { s with sl := { s.sl with stop := false } }

theorem stopServed_of_unlatched {s : State} (hlatched : s.sl.stop = false) : stopServed s = s := by
  change { s with sl := { s.sl with stop := false } } = s
  rw [← hlatched]

theorem passStop_of_latched {p : Pass} (hlatched : p.st.sl.stop = true) :
    passStop p = (noteIfDma { p with st := stopServed p.st }).exitIfNone .slaveReceivedStop :=
  if_pos hlatched

theorem passStop_of_unlatched {p : Pass} (hlatched : p.st.sl.stop = false) : passStop p = p :=
  if_neg (ne_true_of_eq_false hlatched)

theorem settled_passStop (p : Pass) :
    settled (passStop p).noted (passStop p).st = stopServed (settled p.noted p.st) := by
  rw [← settled_update (update := stopServed) (fun _ => rfl) (fun _ => rfl) fun _ => Iff.rfl]
  cases hlatched : p.st.sl.stop with
  | true =>
    rw [passStop_of_latched hlatched]
    exact settled_noteIfDma (update := id) (fun _ => rfl) (fun _ => Iff.rfl) { p with st := stopServed p.st }
  | false => rw [passStop_of_unlatched hlatched, stopServed_of_unlatched hlatched]

theorem passStop_gcall (p : Pass) : (passStop p).st.sl.gcall = p.st.sl.gcall := by
  cases hlatched : p.st.sl.stop with
  | true =>
    rw [passStop_of_latched hlatched]
    exact (congrArg SlaveHw.gcall (noteIfDma_sl { p with st := stopServed p.st }) :)
  | false => rw [passStop_of_unlatched hlatched]

theorem passStop_exit (p : Pass) :
    (passStop p).exit = if p.st.sl.stop then some (p.exit.getD .slaveReceivedStop) else p.exit := by
  cases hlatched : p.st.sl.stop with
  | true =>
    rw [passStop_of_latched hlatched, Pass.exitIfNone, noteIfDma_exit]
    rfl
  | false => rw [passStop_of_unlatched hlatched]; rfl

/-! ### The general call (43_i2c_slave.md R436) -/

/-- The general call cleared and noted. -/
def gcallNoted (s : State) : State :=
  { s with
    sl := { s.sl with gcall := false }
    i2cd := { s.i2cd with gcPending := true, gcCmd := s.sl.gcId } }

/-- The service of a latched general call. -/
def gcallServed (s : State) : State := if s.sl.gcall then gcallNoted s else s

theorem passGcall_of_latched {p : Pass} (hlatched : p.st.sl.gcall = true) :
    passGcall p = Pass.exitIfNone { p with st := gcallNoted p.st } .slaveGeneralCall :=
  if_pos hlatched

theorem passGcall_of_unlatched {p : Pass} (hlatched : p.st.sl.gcall = false) : passGcall p = p :=
  if_neg (ne_true_of_eq_false hlatched)

theorem settled_passGcall (p : Pass) :
    settled (passGcall p).noted (passGcall p).st = gcallServed (settled p.noted p.st) := by
  rw [gcallServed, settled_gcall]
  cases hlatched : p.st.sl.gcall with
  | true =>
    rw [passGcall_of_latched hlatched, if_pos rfl]
    exact settled_update (update := gcallNoted) (fun _ => rfl) (fun _ => rfl) (fun _ => Iff.rfl) _ _
  | false => rw [passGcall_of_unlatched hlatched, if_neg Bool.false_ne_true]

theorem passGcall_exit (p : Pass) :
    (passGcall p).exit = if p.st.sl.gcall then some (p.exit.getD .slaveGeneralCall) else p.exit := by
  cases hlatched : p.st.sl.gcall with
  | true => rw [passGcall_of_latched hlatched]; rfl
  | false => rw [passGcall_of_unlatched hlatched]; rfl

/-! ### All the latched bits (43_i2c_slave.md R430) -/

theorem settled_latchPass (p : Pass) :
    settled (latchPass p).noted (latchPass p).st =
      gcallServed (stopServed (repstartServed (settled p.noted p.st))) := by
  rw [latchPass, settled_passGcall, settled_passStop, settled_passRepstart]

/-- R430: the exit is the repeat start's, else the one that is set, else the stop's, else the general call's. -/
theorem latchPass_exit (p : Pass) :
    (latchPass p).exit =
      if p.st.sl.repstart ∨ p.st.sl.stop ∨ p.st.sl.gcall then
        some (if p.st.sl.repstart then .slaveRepeatStart else p.exit.getD (latchExit p.st))
      else p.exit := by
  obtain ⟨hstop, hgcall⟩ := passRepstart_latches p
  rw [latchPass, passGcall_exit, passStop_exit, passRepstart_exit, passStop_gcall, hstop, hgcall, latchExit]
  cases p.st.sl.repstart with
  | true => cases p.st.sl.stop <;> cases p.st.sl.gcall <;> rfl
  | false =>
    cases p.st.sl.stop with
    | true => cases p.st.sl.gcall <;> cases p.exit <;> rfl
    | false => cases p.st.sl.gcall <;> rfl

theorem latchPass_of_noLatch {p : Pass} (hnone : NoSlaveLatch p.st) : latchPass p = p := by
  obtain ⟨hrepstart, hstop, hgcall⟩ := hnone
  rw [latchPass, passRepstart_of_unlatched hrepstart, passStop_of_unlatched hstop, passGcall_of_unlatched hgcall]

/-- The latched bits serviced and the call ended with `r`, the progress of the channel noted before. -/
def latchesEnded (r : I2CResult) (s : State) : State :=
  signalCompletion r
    { s with
      sl := latchesServed s
      i2cd :=
        { latchesNoted s with
          txRem := if s.sl.repstart then 0 else s.i2cd.txRem
          rxRem := if s.sl.repstart then 0 else s.i2cd.rxRem } }

theorem latchesEnded_eq (r : I2CResult) (s : State) :
    latchesEnded r s = signalCompletion r (fifoRequestsOff (gcallServed (stopServed (repstartServed s)))) := by
  refine congrArg (signalCompletion r) ?_
  unfold latchesServed latchesNoted repstartServed gcallServed stopServed fifoRequestsOff
  cases hrepstart : s.sl.repstart with
  | true => cases hgcall : s.sl.gcall <;> simp [repstartHeld, countsZeroed, gcallNoted, hgcall]
  | false => cases hgcall : s.sl.gcall <;> simp [gcallNoted, hrepstart, hgcall]

/-! ### The handler's step (43_i2c_slave.md R430, 60_exceptions.md R533) -/

section
variable {s : State}

/-- What a pass leaves whose accesses lie in declared regions. -/
def slavePassed (s : State) : State :=
  if NoSlaveLatch s then
    if countExhausted s then slaveEnded .success (progressNoted (fifosServed s)) else fifosServed s
  else
    latchesEnded (if s.sl.repstart = false ∧ countExhausted s then .success else latchExit s)
      (progressNoted (fifosServed s))

theorem passExit_of_some {p : Pass} {r : I2CResult} (hexit : p.exit = some r) : passExit p = slaveExit r p := by
  rw [passExit, hexit]

theorem passExit_of_none {p : Pass} (hexit : p.exit = none) : passExit p = p.st := by
  rw [passExit, hexit]

/-- R431, R432: a pass with nothing latched exits where the count of the call is exhausted. -/
theorem passExit_of_noLatch (hnone : NoSlaveLatch s) :
    passExit (latchPass (fifosPassed s)) =
      if countExhausted s then slaveEnded .success (progressNoted (fifosServed s)) else fifosServed s := by
  rw [latchPass_of_noLatch (p := fifosPassed s) hnone]
  cases hexhausted : countExhausted s with
  | true =>
    have hexit : (fifosPassed s).exit = some .success := if_pos hexhausted
    rw [passExit_of_some hexit, slaveExit_eq, if_pos rfl, ← settled_false]
    rfl
  | false =>
    have hexit : (fifosPassed s).exit = none := if_neg (ne_true_of_eq_false hexhausted)
    rw [passExit_of_none hexit]
    rfl

/-- R430: the exit of a pass that found latched bits. -/
theorem latchPass_fifosPassed_exit (hlatched : ¬NoSlaveLatch s) :
    (latchPass (fifosPassed s)).exit =
      some (if s.sl.repstart = false ∧ countExhausted s then .success else latchExit s) := by
  have hbits : s.sl.repstart ∨ s.sl.stop ∨ s.sl.gcall := by
    by_contra hclear
    simp only [not_or, Bool.not_eq_true] at hclear
    exact hlatched hclear
  refine (latchPass_exit (fifosPassed s)).trans ((if_pos hbits).trans (congrArg some ?_))
  change (if s.sl.repstart then I2CResult.slaveRepeatStart
    else (if countExhausted s then some I2CResult.success else none).getD (latchExit s)) = _
  cases hrepstart : s.sl.repstart with
  | true => simp [latchExit, hrepstart]
  | false => cases countExhausted s <;> simp

theorem passExit_of_latched (hlatched : ¬NoSlaveLatch s) :
    passExit (latchPass (fifosPassed s)) =
      latchesEnded (if s.sl.repstart = false ∧ countExhausted s then .success else latchExit s)
        (progressNoted (fifosServed s)) := by
  rw [passExit_of_some (latchPass_fifosPassed_exit hlatched), slaveExit_eq, settled_latchPass, latchesEnded_eq,
    ← settled_false]
  rfl

/-- R430: a pass runs to its end, unless it would access memory outside every declared region. -/
theorem slaveService_eq_slavePassed (s : State) :
    slaveService s = if SlaveAccessDeclared s then .ok (slavePassed s) else .error .stuck := by
  rw [slaveService_eq]
  split
  · next hdecl =>
    rw [fifos_ok hdecl, slavePassed]
    refine congrArg Except.ok ?_
    split
    · next hnone => exact passExit_of_noLatch hnone
    · next hlatched => exact passExit_of_latched hlatched
  · next hundeclared =>
    rw [fifos_stuck hundeclared]
    rfl

theorem leaveHandler_progressNoted (s : State) : leaveHandler (progressNoted s) = progressNoted (leaveHandler s) := by
  unfold progressNoted
  dsimp only
  rw [apply_ite leaveHandler]
  rfl

theorem leaveHandler_slaveEnded (r : I2CResult) (s : State) :
    leaveHandler (slaveEnded r s) = slaveEnded r (leaveHandler s) :=
  leaveHandler_signalCompletion (fifoRequestsOff s) r

theorem leaveHandler_latchesEnded (r : I2CResult) (s : State) :
    leaveHandler (latchesEnded r s) = latchesEnded r (leaveHandler s) :=
  leaveHandler_signalCompletion _ r

theorem leaveHandler_slavePassed (s : State) : leaveHandler (slavePassed s) = slavePassed (leaveHandler s) := by
  unfold slavePassed
  rw [apply_ite leaveHandler, apply_ite leaveHandler, leaveHandler_slaveEnded, leaveHandler_latchesEnded,
    leaveHandler_progressNoted]
  rfl

theorem slaveService_ignoresHandler : IgnoresHandler slaveService := by
  have hpassed : IgnoresHandler fun s => .ok (slavePassed s) := .of_update leaveHandler_slavePassed
  have hstuck : IgnoresHandler fun _ => .error .stuck := fun _ => rfl
  intro s
  rw [slaveService_eq_slavePassed, slaveService_eq_slavePassed]
  exact IgnoresHandler.ite (c := fun t => SlaveAccessDeclared t) hpassed hstuck (fun _ => Iff.rfl) s

theorem exec_i2csIsr (hstart : MayStart .i2cs (slaveReq s) s) :
    exec .i2csIsr s = finishAgent s (if SlaveAccessDeclared s then .ok (slavePassed s) else .error .stuck) :=
  (handlerStep_of_ignores hstart slaveService_ignoresHandler).trans
    (congrArg (finishAgent s) (slaveService_eq_slavePassed s))

end

/-- Settles O55: with nothing latched the pass is its FIFO services and the exit of an exhausted count. -/
theorem slaveIsrFifo : Obligations.SlaveIsrFifo := by
  intro s hstart
  rw [exec_i2csIsr hstart]
  refine ⟨fun hnone hdecl => ?_, fun hundeclared => ?_⟩
  · rw [if_pos hdecl, slavePassed, if_pos hnone]
    rfl
  · rw [if_neg hundeclared]
    rfl

/-- Settles O56: the latched bits are serviced after the FIFOs, on the state where the progress is noted. -/
theorem slaveIsrLatched : Obligations.SlaveIsrLatched := by
  intro s hstart hlatched hdecl
  have hrepstart : (progressNoted (fifosServed s)).sl.repstart = s.sl.repstart := settled_repstart false (fifosServed s)
  rw [exec_i2csIsr hstart, if_pos hdecl, slavePassed, if_neg hlatched, latchesEnded, hrepstart]
  rfl

end Sys2Proof.Machine

/-! The DMA scheduler (44_i2c_dma.md R460 to R465, R481): each call is one update of the state, whatever is left to
schedule, so the chunks of a transfer are counted by iterating one equation. -/

namespace Sys2Proof.Machine

open Sys2Proof.Cert

@[simp] theorem DmaHw.set_set (d : DmaHw) (c : Chan) (v w : Channel) : (d.set c v).set c w = d.set c w := by
  cases c <;> rfl

/-! ### One call (44_i2c_dma.md R461) -/

/-- The descriptor that the next call of the scheduler submits: the next chunk, or an inactive one when none remains. -/
def nextDesc (s : State) : Desc :=
  if 0 < s.i2cd.unsched then
    { mode := .pingpong, ptr := s.i2cd.nextPtr, count := nextChunk s, toPeriph := toPeriph s s.i2cd.curCh }
  else Desc.inactive (toPeriph s s.i2cd.curCh)

section
variable (s : State)

/-- With nothing left the next chunk is 0 bytes long, so the fields move on by its length in either case. -/
theorem scheduleNext_eq :
    scheduleNext s =
      { s with
        dma := s.dma.set s.i2cd.curCh ((s.dma.get s.i2cd.curCh).setSlot s.i2cd.nextSlot (nextDesc s))
        i2cd :=
          { s.i2cd with
            nextPtr := s.i2cd.nextPtr + BitVec.ofNat 32 (nextChunk s)
            unsched := s.i2cd.unsched - nextChunk s
            nextSlot := s.i2cd.nextSlot.other } } := by
  unfold scheduleNext nextDesc
  by_cases hleft : 0 < s.i2cd.unsched
  · simp only [if_pos hleft]
    rfl
  · have hnone : s.i2cd.unsched = 0 := Nat.eq_zero_of_not_pos hleft
    have hchunk : nextChunk s = 0 := by rw [nextChunk, hnone, Nat.zero_min]
    simp only [if_neg hleft, hchunk, BitVec.add_zero, Nat.sub_zero]
    rfl

theorem scheduleNext_slot :
    ((scheduleNext s).dma.get s.i2cd.curCh).slot s.i2cd.nextSlot = nextDesc s := by
  rw [scheduleNext_eq, DmaHw.get_set_self, Channel.slot_setSlot, if_pos rfl]

theorem scheduleNext_unsched : (scheduleNext s).i2cd.unsched = s.i2cd.unsched - nextChunk s := by
  rw [scheduleNext_eq]

theorem scheduleNext_nextPtr :
    (scheduleNext s).i2cd.nextPtr = s.i2cd.nextPtr + BitVec.ofNat 32 (nextChunk s) := by
  rw [scheduleNext_eq]

/-- The scheduler leaves the counts of the call and the direction of each channel. -/
theorem scheduleNext_counts :
    (scheduleNext s).i2cd.txRem = s.i2cd.txRem ∧ (scheduleNext s).i2cd.rxRem = s.i2cd.rxRem ∧
      ∀ c, toPeriph (scheduleNext s) c = toPeriph s c := by
  rw [scheduleNext_eq]
  exact ⟨rfl, rfl, fun _ => rfl⟩

end

/-! ### The counts brought up to date (44_i2c_dma.md R465) -/

theorem dmaSyncRem_eq (c : Chan) (s : State) :
    dmaSyncRem c s =
      { s with
        i2cd :=
          { s.i2cd with
            txRem := if toPeriph s c then dmaRemaining s c else s.i2cd.txRem
            rxRem := if toPeriph s c then s.i2cd.rxRem else dmaRemaining s c } } := by
  unfold dmaSyncRem
  split
  · rfl
  · rfl

/-! ### The chunks of a transfer (44_i2c_dma.md R481) -/

section
variable (k : Nat) (s : State)

/-- The last of `k + 1` calls works on the state that `k` calls leave. -/
theorem scheduled_succ : scheduled (k + 1) s = scheduleNext (scheduled k s) := by
  induction k generalizing s with
  | zero => rfl
  | succ k ih => exact ih (scheduleNext s)

/-- The scheduler keeps the chunk size, the channel and the direction. -/
theorem scheduled_frame :
    (scheduled k s).cfg = s.cfg ∧ (scheduled k s).i2cd.curCh = s.i2cd.curCh ∧
      ∀ c, toPeriph (scheduled k s) c = toPeriph s c := by
  induction k with
  | zero => exact ⟨rfl, rfl, fun _ => rfl⟩
  | succ k ih =>
    rw [scheduled_succ, scheduleNext_eq]
    exact ih

theorem nextChunk_scheduled : nextChunk (scheduled k s) = min (scheduled k s).i2cd.unsched s.cfg.dmaMax := by
  obtain ⟨hcfg, _, _⟩ := scheduled_frame k s
  rw [nextChunk, hcfg]

/-- Every call takes `P_DMA_MAX` bytes, or what is left. -/
theorem scheduled_unsched : (scheduled k s).i2cd.unsched = s.i2cd.unsched - s.cfg.dmaMax * k := by
  induction k with
  | zero => rfl
  | succ k ih =>
    rw [scheduled_succ, scheduleNext_unsched, nextChunk_scheduled, ih, Nat.mul_succ]
    omega

/-- The running pointer advances by what has been scheduled, and never past the end of the transfer. -/
theorem scheduled_nextPtr :
    (scheduled k s).i2cd.nextPtr = s.i2cd.nextPtr + BitVec.ofNat 32 (min s.i2cd.unsched (s.cfg.dmaMax * k)) := by
  induction k with
  | zero => simp [scheduled]
  | succ k ih =>
    have hsum : min s.i2cd.unsched (s.cfg.dmaMax * k) + nextChunk (scheduled k s) =
        min s.i2cd.unsched (s.cfg.dmaMax * (k + 1)) := by
      rw [nextChunk_scheduled, scheduled_unsched, Nat.mul_succ]
      omega
    rw [scheduled_succ, scheduleNext_nextPtr, ih, BitVec.add_assoc, ← BitVec.ofNat_add, hsum]

/-- The `k`-th call, counted from 0, submits its descriptor to the transfer's channel. -/
theorem scheduled_slot :
    ((scheduled (k + 1) s).dma.get s.i2cd.curCh).slot (scheduled k s).i2cd.nextSlot = nextDesc (scheduled k s) := by
  obtain ⟨_, hch, _⟩ := scheduled_frame k s
  rw [scheduled_succ, ← hch, scheduleNext_slot]

end

/-- The last chunk of `len` bytes in chunks of `size`, counted from 0, is number `(len - 1) / size`: it begins before the
end, and reaches it. -/
theorem lastChunk_bounds {len size : Nat} (hlen : 1 ≤ len) (hsize : 1 ≤ size) :
    size * ((len - 1) / size) < len ∧ len ≤ size * ((len - 1) / size) + size := by
  have hdiv := Nat.div_add_mod (len - 1) size
  have hmod := Nat.mod_lt (len - 1) hsize
  omega

/-- Settles O58: what is unscheduled and where the pointer stands after each call decide every chunk. -/
theorem dmaChunks : Obligations.DmaChunks := by
  intro s hlen hmax q
  obtain ⟨hbegins, hreaches⟩ : s.cfg.dmaMax * q < s.i2cd.unsched ∧ s.i2cd.unsched ≤ s.cfg.dmaMax * q + s.cfg.dmaMax :=
    lastChunk_bounds hlen hmax
  have hnone : (scheduled (q + 1) s).i2cd.unsched = 0 := by
    rw [scheduled_unsched, Nat.mul_succ]
    omega
  have hptr : ∀ k, q < k → (scheduled k s).i2cd.nextPtr = s.i2cd.nextPtr + BitVec.ofNat 32 s.i2cd.unsched := by
    intro k hk
    have hpast : s.cfg.dmaMax * (q + 1) ≤ s.cfg.dmaMax * k := Nat.mul_le_mul_left _ hk
    rw [scheduled_nextPtr, Nat.min_eq_left ((Nat.mul_succ _ _ ▸ hreaches).trans hpast)]
  refine ⟨fun k hk => ?_, ?_, fun k hk => ⟨scheduled_unsched k s, ?_, ?_⟩, hnone, hptr _ q.lt_succ_self, ?_, ?_⟩
  · have hfull : s.cfg.dmaMax * (k + 1) ≤ s.cfg.dmaMax * q := Nat.mul_le_mul_left _ hk
    rw [nextChunk_scheduled, scheduled_unsched]
    rw [Nat.mul_succ] at hfull
    omega
  · rw [nextChunk_scheduled, scheduled_unsched]
    omega
  · have hwithin : s.cfg.dmaMax * k ≤ s.cfg.dmaMax * q := Nat.mul_le_mul_left _ hk
    rw [scheduled_nextPtr, Nat.min_eq_right (hwithin.trans hbegins.le)]
  · have hwithin : s.cfg.dmaMax * k ≤ s.cfg.dmaMax * q := Nat.mul_le_mul_left _ hk
    have hleft : 0 < (scheduled k s).i2cd.unsched := by
      rw [scheduled_unsched]
      omega
    obtain ⟨_, hch, hdir⟩ := scheduled_frame k s
    rw [scheduled_slot, nextDesc, if_pos hleft, hdir, hch]
  · rw [hptr _ (by omega), hptr _ q.lt_succ_self]
  · obtain ⟨_, hch, hdir⟩ := scheduled_frame (q + 1) s
    rw [scheduled_slot, nextDesc, if_neg hnone.not_gt, hdir, hch]

/-! ### The start of a transfer (44_i2c_dma.md R460) -/

section
variable {c : Chan} {buf : Addr} {n : Nat} {s : State}

theorem nextDesc_dmaArm (hn : 1 ≤ n) :
    nextDesc (dmaArm c buf n s) =
      { mode := .pingpong, ptr := buf, count := min n s.cfg.dmaMax, toPeriph := toPeriph s c } := by
  have hleft : 0 < (dmaArm c buf n s).i2cd.unsched := hn
  rw [nextDesc, if_pos hleft]
  cases c <;> rfl

theorem nextChunk_second :
    nextChunk (scheduleNext (dmaArm c buf n s)) = min (n - min n s.cfg.dmaMax) s.cfg.dmaMax := by
  rw [scheduleNext_eq]
  rfl

/-- The alternate slot takes the second chunk, or an inactive descriptor when the first was the whole transfer. -/
theorem nextDesc_second :
    nextDesc (scheduleNext (dmaArm c buf n s)) =
      if n ≤ s.cfg.dmaMax then Desc.inactive (toPeriph s c)
      else
        { mode := .pingpong, ptr := buf + BitVec.ofNat 32 (min n s.cfg.dmaMax)
          count := min (n - min n s.cfg.dmaMax) s.cfg.dmaMax, toPeriph := toPeriph s c } := by
  have hleft : (scheduleNext (dmaArm c buf n s)).i2cd.unsched = n - min n s.cfg.dmaMax := scheduleNext_unsched _
  have hdir : toPeriph (scheduleNext (dmaArm c buf n s)) (scheduleNext (dmaArm c buf n s)).i2cd.curCh = toPeriph s c := by
    rw [scheduleNext_eq]
    cases c <;> rfl
  rw [nextDesc, hleft, hdir, nextChunk_second, scheduleNext_nextPtr]
  by_cases hone : n ≤ s.cfg.dmaMax
  · rw [if_pos hone, if_neg (by omega)]
  · rw [if_neg hone, if_pos (by omega)]
    rfl


/-- Both descriptors submitted: the primary's chunk first, then the alternate's from where that one ends. -/
theorem chunksSubmitted (hn : 1 ≤ n) :
    scheduleNext (scheduleNext (dmaArm c buf n s)) =
      let k := min n s.cfg.dmaMax
      let k2 := min (n - k) s.cfg.dmaMax
      { s with
        dma :=
          s.dma.set c
            { pri := { mode := .pingpong, ptr := buf, count := k, toPeriph := toPeriph s c }
              alt :=
                if n ≤ s.cfg.dmaMax then Desc.inactive (toPeriph s c)
                else { mode := .pingpong, ptr := buf + BitVec.ofNat 32 k, count := k2, toPeriph := toPeriph s c }
              cur := .pri, enabled := (s.dma.get c).enabled, done := false }
        i2cd :=
          { s.i2cd with
            curCh := c, nextSlot := .pri, unsched := n - k - k2
            nextPtr := buf + BitVec.ofNat 32 k + BitVec.ofNat 32 k2 } } := by
  rw [scheduleNext_eq (scheduleNext _), nextDesc_second, nextChunk_second, scheduleNext_eq (dmaArm c buf n s),
    nextDesc_dmaArm hn]
  cases c <;> rfl

end

/-- Settles O57: the enabled channel holds both chunks, and with what is unscheduled they are the whole transfer. -/
theorem dmaStart_submits : Obligations.DmaStart := by
  intro c buf n s hn _ k k2
  have hrem : dmaRemaining (dmaEnable c (scheduleNext (scheduleNext (dmaArm c buf n s)))) c = n := by
    rw [dmaRemaining, dmaEnable, setChannel_dma, DmaHw.get_set_self, chunksSubmitted hn]
    simp only [DmaHw.get_set_self]
    by_cases hone : n ≤ s.cfg.dmaMax
    · rw [if_pos hone]
      change n - k - k2 + (k + 0) = n
      omega
    · rw [if_neg hone]
      change n - k - k2 + (k + k2) = n
      omega
  rw [dmaStart_eq, dmaSyncRem_eq, hrem, chunksSubmitted hn]
  cases c <;> rfl

end Sys2Proof.Machine

/-! The DMA engine and its handler (44_i2c_dma.md R468 to R471, R480). -/

namespace Sys2Proof.Machine

open Sys2Proof.Cert

theorem exec_dmaXfer (c : Chan) (s : State) : exec (.dmaXfer c) s = execDmaXfer c s := rfl

@[simp] theorem Desc.active_iff (d : Desc) : d.active = true ↔ d.mode = .pingpong := by
  rw [Desc.active, beq_iff_eq]

/-! ### One element (44_i2c_dma.md R470) -/

section
variable {b : Byte} {f : List Byte} {d : Desc} {s : State}

/-- R470 as the statement has it: the last element is the one at which at most one byte is left. -/
theorem advanceChannel_eq (ch : Channel) : advanceChannel ch = elementMoved ch := by
  have hlast : (ch.slot ch.cur).count - 1 = 0 ↔ (ch.slot ch.cur).count ≤ 1 := by omega
  unfold advanceChannel elementMoved
  simp only [hlast]
  split
  · next hcount => rw [hlast.2 hcount]; rfl
  · rfl

theorem memWrite_of_declared {a : Addr} (hdecl : declared s a = true) :
    memWrite a b s = .ok { s with mem := Memory.write s.mem a.toNat b } :=
  if_pos hdecl

theorem memWrite_of_undeclared {a : Addr} (hdecl : declared s a = false) : memWrite a b s = .error .stuck :=
  if_neg (ne_true_of_eq_false hdecl)

theorem moveElement_to_m (hdir : d.toPeriph = true) (hdecl : declared s d.ptr = true)
    (hroom : s.m.txf.length < s.cfg.fifoDepth) :
    moveElement .m d s = .ok { s with m := { s.m with txf := s.m.txf ++ [Memory.read s.mem d.ptr.toNat] } } := by
  rw [moveElement, if_pos hdir, memRead_of_declared hdecl]
  exact pushMTx_of_room hroom

theorem moveElement_to_stx (hdir : d.toPeriph = true) (hdecl : declared s d.ptr = true)
    (hroom : s.sl.txf.length < s.cfg.fifoDepth) :
    moveElement .stx d s = .ok { s with sl := { s.sl with txf := s.sl.txf ++ [Memory.read s.mem d.ptr.toNat] } } := by
  rw [moveElement, if_pos hdir, memRead_of_declared hdecl]
  exact pushSTx_of_room hroom

theorem moveElement_from_m (hdir : d.toPeriph = false) (hrxf : s.m.rxf = b :: f) :
    moveElement .m d s = memWrite d.ptr b { s with m := { s.m with rxf := f } } := by
  rw [moveElement, if_neg (ne_true_of_eq_false hdir)]
  change (popMRx s >>= _) = _
  rw [popMRx_of_cons hrxf]
  rfl

theorem moveElement_from_srx (hdir : d.toPeriph = false) (hrxf : s.sl.rxf = b :: f) :
    moveElement .srx d s = memWrite d.ptr b { s with sl := { s.sl with rxf := f } } := by
  rw [moveElement, if_neg (ne_true_of_eq_false hdir)]
  change (popSRx s >>= _) = _
  rw [popSRx_of_cons hrxf]
  rfl

theorem slaveRoom_of_dmaReq (hreq : dmaReq s .stx = true) : s.sl.txf.length < s.cfg.fifoDepth := by
  simp only [dmaReq, Bool.and_eq_true, decide_eq_true_eq] at hreq
  exact hreq.2

theorem slaveByte_of_dmaReq (hreq : dmaReq s .srx = true) : ∃ b f, s.sl.rxf = b :: f := by
  simp only [dmaReq, Bool.and_eq_true, decide_eq_true_eq] at hreq
  exact List.exists_cons_of_length_pos hreq.2

/-- R120, R524: at an address outside every declared region the engine stops at its access to memory, unless it stops
before at an empty master FIFO. -/
theorem moveElement_undeclared {c : Chan} (hreq : dmaReq s c = true) (hdecl : declared s d.ptr = false)
    (hbyte : d.toPeriph = true ∨ c ≠ .m ∨ s.m.rxf ≠ []) : moveElement c d s = .error .stuck := by
  cases hdir : d.toPeriph with
  | true =>
    unfold moveElement
    rw [if_pos hdir, memRead_of_undeclared hdecl]
    rfl
  | false =>
    cases c with
    | m =>
      obtain ⟨b, f, hrxf⟩ : ∃ b f, s.m.rxf = b :: f := List.exists_cons_of_ne_nil (by simpa [hdir] using hbyte)
      rw [moveElement_from_m hdir hrxf]
      exact memWrite_of_undeclared hdecl
    | stx => exact if_neg (ne_true_of_eq_false hdir)
    | srx =>
      obtain ⟨b, f, hrxf⟩ := slaveByte_of_dmaReq hreq
      rw [moveElement_from_srx hdir hrxf]
      exact memWrite_of_undeclared hdecl

end

/-! ### DMA_XFER (44_i2c_dma.md R470) -/

section
variable {c : Chan} {s : State}

theorem dmaCanMove_of_enabled (hen : (s.dma.get c).enabled = true) (hactive : (curDesc s c).mode = .pingpong)
    (hreq : dmaReq s c = true) : dmaCanMove s c = true := by
  have hslot : ((s.dma.get c).slot (s.dma.get c).cur).active = true := (Desc.active_iff _).2 hactive
  rw [dmaCanMove, hen, hslot, hreq]
  rfl

/-- The effect of DMA_XFER that moves its element: the channel advances, as it was before the move. -/
theorem exec_dmaXfer_moved {u : State} (hcan : dmaCanMove s c = true) (hmove : moveElement c (curDesc s c) s = .ok u)
    (hdma : u.dma = s.dma) :
    exec (.dmaXfer c) s = .next { u with dma := s.dma.set c (elementMoved (s.dma.get c)) } := by
  rw [exec_dmaXfer]
  refine eventStep_of_run hcan ?_
  change (moveElement c (curDesc s c) s >>= _) = _
  rw [hmove, ← advanceChannel_eq, ← hdma]
  rfl

theorem exec_dmaXfer_stuck (hcan : dmaCanMove s c = true) (hmove : moveElement c (curDesc s c) s = .error .stuck) :
    exec (.dmaXfer c) s = .next { s with refused := some .eventNotEnabled } := by
  rw [exec_dmaXfer, execDmaXfer, eventStep, if_pos hcan]
  change finishAgent s (moveElement c (curDesc s c) s >>= _) = _
  rw [hmove]
  rfl

end

/-- Settles O59: the request gives a slave FIFO its room or its byte, and the element moves by the descriptor's
direction. -/
theorem dmaXfer : Obligations.DmaXfer := by
  intro c s hen hactive hreq
  have hcan := dmaCanMove_of_enabled hen hactive hreq
  refine ⟨fun hdecl hbyte => exec_dmaXfer_stuck hcan (moveElement_undeclared hreq hdecl hbyte),
    fun hdecl => ⟨fun hdir => ⟨?_, ?_⟩, fun hdir => ⟨?_, ?_⟩⟩⟩
  · rintro rfl hroom
    exact exec_dmaXfer_moved hcan (moveElement_to_m hdir hdecl hroom) rfl
  · rintro rfl
    exact exec_dmaXfer_moved hcan (moveElement_to_stx hdir hdecl (slaveRoom_of_dmaReq hreq)) rfl
  · rintro b f rfl hrxf
    exact exec_dmaXfer_moved hcan ((moveElement_from_m hdir hrxf).trans (memWrite_of_declared hdecl)) rfl
  · rintro b f rfl hrxf
    exact exec_dmaXfer_moved hcan ((moveElement_from_srx hdir hrxf).trans (memWrite_of_declared hdecl)) rfl

/-! ### The completion of a transfer (44_i2c_dma.md R480) -/

section
variable (c : Chan) (s : State)

theorem dmaDisableRequest_eq :
    dmaDisableRequest c s =
      { s with
        m := { s.m with dmaTx := s.m.dmaTx && c != .m, dmaRx := s.m.dmaRx && c != .m }
        sl := { s.sl with dmaTx := s.sl.dmaTx && c != .stx, dmaRx := s.sl.dmaRx && c != .srx } } := by
  cases c <;> simp [dmaDisableRequest, bne, beq_eq_decide]

/-- What a completion leaves before it is signalled: the requests off, and the counts up to date. -/
def dmaCompleted (c : Chan) (s : State) : State :=
  { s with
    m := { s.m with dmaTx := s.m.dmaTx && c != .m, dmaRx := s.m.dmaRx && c != .m }
    sl := { s.sl with dmaTx := s.sl.dmaTx && c != .stx, dmaRx := s.sl.dmaRx && c != .srx }
    i2cd :=
      { s.i2cd with
        txRem := if toPeriph s c then dmaRemaining s c else s.i2cd.txRem
        rxRem := if toPeriph s c then s.i2cd.rxRem else dmaRemaining s c
        rxFilled :=
          if c = .srx ∧ s.i2cd.complete = false then s.i2cd.xferLen - dmaRemaining s c else s.i2cd.rxFilled } }

theorem noteFilled_eq :
    noteFilled c s =
      { s with
        i2cd := { s.i2cd with rxFilled := if c = .srx then s.i2cd.xferLen - s.i2cd.rxRem else s.i2cd.rxFilled } } := by
  unfold noteFilled
  split
  · rfl
  · rfl

/-- The fill count is noted only where the completion counts, from the count of the receive channel. -/
theorem dmaComplete_eq : dmaComplete c s = signalCompletion .success (dmaCompleted c s) := by
  have hsynced : dmaSyncRem c (dmaDisableRequest c s) =
      { dmaCompleted c s with i2cd := { (dmaCompleted c s).i2cd with rxFilled := s.i2cd.rxFilled } } := by
    rw [dmaSyncRem_eq, dmaDisableRequest_eq]
    cases c <;> rfl
  unfold dmaComplete
  rw [hsynced]
  cases hcomplete : s.i2cd.complete with
  | true =>
    have hkept : (dmaCompleted c s).i2cd.complete = true := hcomplete
    rw [if_pos hkept, signalCompletion, if_pos hkept]
    simp [dmaCompleted, hcomplete]
  | false =>
    have hopen : ¬(dmaCompleted c s).i2cd.complete = true := ne_true_of_eq_false hcomplete
    rw [if_neg hopen, noteFilled_eq]
    refine congrArg (signalCompletion .success) ?_
    cases c with
    | m => rfl
    | stx => rfl
    | srx => simp [dmaCompleted, hcomplete, toPeriph]

theorem leaveHandler_scheduleNext : leaveHandler (scheduleNext s) = scheduleNext (leaveHandler s) := by
  rw [scheduleNext_eq, scheduleNext_eq]
  rfl

theorem leaveHandler_dmaSyncRem : leaveHandler (dmaSyncRem c s) = dmaSyncRem c (leaveHandler s) := by
  rw [dmaSyncRem_eq, dmaSyncRem_eq]
  rfl

theorem leaveHandler_dmaComplete : leaveHandler (dmaComplete c s) = dmaComplete c (leaveHandler s) := by
  rw [dmaComplete_eq, dmaComplete_eq, leaveHandler_signalCompletion]
  rfl

end

/-! ### The service (44_i2c_dma.md R480) -/

/-- The channel with its latched completion cleared. -/
def doneCleared (c : Chan) (s : State) : State := { s with dma := s.dma.set c { s.dma.get c with done := false } }

theorem dmaService_ignoresHandler (c : Chan) : IgnoresHandler (dmaService c) := by
  have hcleared : IgnoresHandler fun s => .ok (doneCleared c s) := .of_update fun _ => rfl
  have hcomplete : IgnoresHandler fun s => .ok (dmaComplete c (doneCleared c s)) :=
    .of_update fun _ => leaveHandler_dmaComplete c _
  have hrefill : IgnoresHandler fun s => .ok (dmaSyncRem c (scheduleNext (doneCleared c s))) :=
    .of_update fun _ => (leaveHandler_dmaSyncRem c _).trans (congrArg (dmaSyncRem c) (leaveHandler_scheduleNext _))
  have hmismatch : IgnoresHandler fun _ => .error (.fault .dmaSlotMismatch) := fun _ => rfl
  exact .ite hcleared
    (.ite hcomplete (.ite (.ite hmismatch hrefill fun _ => Iff.rfl) hcleared fun _ => Iff.rfl) fun _ => Iff.rfl)
    fun _ => Iff.rfl

section
variable {c : Chan} {s : State}

theorem exec_dmaIsr (hstart : MayStart (lineOfChan c) (s.dma.get c).done s) :
    exec (.dmaIsr c) s = finishAgent s (dmaService c s) :=
  handlerStep_of_ignores (req := fun t => (t.dma.get c).done) hstart (dmaService_ignoresHandler c)

theorem dmaService_stale (hstale : s.i2cd.dmaOwned = false ∨ c ≠ s.i2cd.curCh) :
    dmaService c s = .ok (doneCleared c s) := by
  have hleft : (!s.i2cd.dmaOwned || decide (c ≠ s.i2cd.curCh)) = true := by simpa using hstale
  exact if_pos hleft

/-- On the current channel of an owned engine the slots decide, which the cleared completion leaves as they were. -/
theorem dmaService_current (howned : s.i2cd.dmaOwned = true) (hcur : c = s.i2cd.curCh) :
    dmaService c s =
      let pa := (s.dma.get c).pri.active
      let aa := (s.dma.get c).alt.active
      if !pa && !aa then .ok (dmaComplete c (doneCleared c s))
      else if pa ≠ aa then
        if (if pa then Slot.alt else Slot.pri) ≠ s.i2cd.nextSlot then .error (.fault .dmaSlotMismatch)
        else .ok (dmaSyncRem c (scheduleNext (doneCleared c s)))
      else .ok (doneCleared c s) := by
  have hkept : ¬(!s.i2cd.dmaOwned || decide (c ≠ s.i2cd.curCh)) = true := by simp [howned, hcur]
  refine (if_neg hkept).trans ?_
  simp only [setChannel_dma, DmaHw.get_set_self]
  rfl

theorem dmaService_bothActive (howned : s.i2cd.dmaOwned = true) (hcur : c = s.i2cd.curCh)
    (hpri : (s.dma.get c).pri.active = true) (halt : (s.dma.get c).alt.active = true) :
    dmaService c s = .ok (doneCleared c s) := by
  rw [dmaService_current howned hcur, hpri, halt]
  rfl

theorem dmaService_bothInactive (howned : s.i2cd.dmaOwned = true) (hcur : c = s.i2cd.curCh)
    (hpri : (s.dma.get c).pri.active = false) (halt : (s.dma.get c).alt.active = false) :
    dmaService c s = .ok (dmaComplete c (doneCleared c s)) := by
  rw [dmaService_current howned hcur, hpri, halt]
  rfl

/-- With exactly one slot active, the other must be the one that the scheduler fills next. -/
theorem dmaService_oneActive (howned : s.i2cd.dmaOwned = true) (hcur : c = s.i2cd.curCh)
    (hone : (s.dma.get c).pri.active ≠ (s.dma.get c).alt.active) :
    dmaService c s =
      if (if (s.dma.get c).pri.active then Slot.alt else Slot.pri) ≠ s.i2cd.nextSlot then
        .error (.fault .dmaSlotMismatch)
      else .ok (dmaSyncRem c (scheduleNext (doneCleared c s))) := by
  have hsome : ¬(!(s.dma.get c).pri.active && !(s.dma.get c).alt.active) = true := by
    rw [Bool.eq_not.2 hone]
    simp
  rw [dmaService_current howned hcur]
  exact (if_neg hsome).trans (if_pos hone)

end

/-- With both slots inactive what remains is what is unscheduled. -/
theorem dmaRemaining_of_bothInactive {c : Chan} {s : State} (hpri : (s.dma.get c).pri.active = false)
    (halt : (s.dma.get c).alt.active = false) : dmaRemaining s c = s.i2cd.unsched := by
  rw [dmaRemaining, Desc.remaining, Desc.remaining, hpri, halt]
  rfl

/-- Settles O60: the activity of the two slots chooses the service's case. -/
theorem dmaIsr : Obligations.DmaIsr := by
  intro c s hstart t pa aa
  have hpa : (s.dma.get c).pri.active = true ↔ pa := Desc.active_iff _
  have haa : (s.dma.get c).alt.active = true ↔ aa := Desc.active_iff _
  have hdiff (hone : pa ≠ aa) : (s.dma.get c).pri.active ≠ (s.dma.get c).alt.active :=
    fun heq => hone (propext (by rw [← hpa, ← haa, heq]))
  rw [exec_dmaIsr hstart]
  refine ⟨fun hstale => ?_, fun howned hcur => ⟨fun hp ha => ?_, fun hp ha => ?_, fun hone halt hpri => ?_,
    fun hone hnext => ?_⟩⟩
  · rw [dmaService_stale hstale]
    rfl
  · rw [dmaService_bothActive howned hcur (hpa.2 hp) (haa.2 ha)]
    rfl
  · have hpri : (s.dma.get c).pri.active = false := eq_false_of_ne_true (mt hpa.1 hp)
    have halt : (s.dma.get c).alt.active = false := eq_false_of_ne_true (mt haa.1 ha)
    have hrem : dmaRemaining (doneCleared c s) c = s.i2cd.unsched := by
      refine dmaRemaining_of_bothInactive ?_ ?_
      · rw [doneCleared, DmaHw.get_set_self]; exact hpri
      · rw [doneCleared, DmaHw.get_set_self]; exact halt
    rw [dmaService_bothInactive howned hcur hpri halt, dmaComplete_eq, dmaCompleted, hrem]
    cases c <;> rfl
  · have hfree : (if (s.dma.get c).pri.active then Slot.alt else Slot.pri) = s.i2cd.nextSlot := by
      by_cases hp : (s.dma.get c).pri.active = true
      · rw [if_pos hp, halt (hpa.1 hp)]
      · have ha : (s.dma.get c).alt.active = true := by simpa [hp] using (hdiff hone).symm
        rw [if_neg hp, hpri (haa.1 ha)]
    obtain ⟨htx, hrx, hdir⟩ := scheduleNext_counts (doneCleared c s)
    rw [dmaService_oneActive howned hcur (hdiff hone), if_neg (not_not.2 hfree), dmaSyncRem_eq, hdir, htx, hrx]
    rfl
  · have htaken : (if (s.dma.get c).pri.active then Slot.alt else Slot.pri) ≠ s.i2cd.nextSlot := by
      rcases hnext with ⟨hp, hslot⟩ | ⟨ha, hslot⟩
      · rw [if_pos (hpa.2 hp), hslot]
        exact Slot.noConfusion
      · have hp : ¬(s.dma.get c).pri.active = true := fun h => hdiff hone (h.trans (haa.2 ha).symm)
        rw [if_neg hp, hslot]
        exact Slot.noConfusion
    rw [dmaService_oneActive howned hcur (hdiff hone), if_pos htaken]
    rfl

end Sys2Proof.Machine

/-! Which agent steps next, what an agent that is not enabled answers, and the first completion of a transaction
(60_exceptions.md R544, R545, R548). -/

namespace Sys2Proof.Machine

open Sys2Proof.Cert

/-! ### Completion -/

/-- Settles O35: a completion either finds the transaction complete, or records and reports its result. -/
theorem completionOnce : Obligations.CompletionOnce := by
  intro r s
  have hsem : (s.i2cd.waitArmed || s.i2cd.sem) = if s.i2cd.waitArmed then true else s.i2cd.sem :=
    by cases s.i2cd.waitArmed <;> rfl
  rcases signalCompletion_cases r s with ⟨hcomplete, hsame⟩ | ⟨hactive, hsignal⟩
  · exact ⟨fun _ => hsame, fun hactive => by simp [hcomplete] at hactive⟩
  · refine ⟨fun hcomplete => by simp [hactive] at hcomplete, fun _ => ?_⟩
    rw [hsignal, hsem]
    rfl

/-! ### The word that a step runs -/

theorem runOperation_of_operation {w : List Byte} {i : Instr} (hdecode : decode w = .legal i)
    (hop : isOperation i = true) (s : State) : runOperation w s = exec i s := by
  simp [runOperation, hdecode, hop]

theorem runEvent_of_event {w : List Byte} {i : Instr} (hdecode : decode w = .legal i)
    (hevent : isOperation i = false) (s : State) : runEvent w s = exec i s := by
  simp [runEvent, hdecode, hevent]

/-- R545: where the main context does not run first, the step is that of the next schedule line. -/
theorem step_eq_runTurn {s : State} {t : Turn} {rest : List Turn} (hunmarked : Unmarked s)
    (hmain : s.env.eager = false ∨ mainReady s = false) (hsched : s.env.sched = t :: rest) :
    step s = runTurn t (s.withSched rest) := by
  obtain ⟨hfault, hrefused⟩ := hunmarked
  have hwaits : (s.env.eager && mainReady s) = false := Bool.and_eq_false_iff.2 hmain
  simp [step, stopOrRun, hfault, hrefused, runNext, hwaits, hsched]

/-- Settles O5: an eager main context that is ready runs the word at `main.pc`; otherwise the next line runs. -/
theorem stepRunsDecodedWord : Obligations.StepRunsDecodedWord := by
  refine ⟨fun s w i hunmarked heager hhnd hw hk hdecode hop => ?_,
    fun s w rest i hunmarked hmain hsched hdecode hevent => ?_⟩
  · rw [step_eq_runOperation hunmarked heager hhnd hw hk, runOperation_of_operation hdecode hop]
  · rw [step_eq_runTurn hunmarked hmain hsched]
    exact runEvent_of_event hdecode hevent (s.withSched rest)

/-! ### An event or handler that is not enabled -/

theorem eventStep_of_not_enabled {enabled : State → Bool} {effect : State → Run} {s : State}
    (hdisabled : enabled s = false) : eventStep enabled effect s = .next (s.refuse .eventNotEnabled) := by
  rw [eventStep, if_neg (ne_true_of_eq_false hdisabled)]

theorem decide_length_pos (f : List Byte) : decide (0 < f.length) = (f != []) := by
  cases f <;> rfl

theorem length_beq_zero (f : List Byte) : (f.length == 0) = (f == []) := by
  cases f <;> rfl

/-- The engine moves a byte of direction `d`, in the order in which the rules give the conditions (R421 to R423). -/
theorem slaveMoving_and_dir (d : Dir) (s : State) :
    (slaveMoving s && s.sl.dir == d) = (s.sl.busy && s.sl.dir == d && !s.sl.clockHold && !s.sl.repstart) := by
  simp only [slaveMoving, Bool.and_assoc, Bool.and_left_comm, Bool.and_comm]

theorem txByteEnabled_eq (s : State) :
    txByteEnabled s = (s.m.busy && s.m.phase == .data && s.m.dir == .W && s.m.txf != []) := by
  rw [txByteEnabled, decide_length_pos, masterInData]

/-- `RTC_ISR` goes on from its stall when STATUS0 is free, and starts only where no handler is active (41_rtc_hw.md
R280, 60_exceptions.md R533). -/
theorem execRtcIsr_of_not_enabled {s : State} (hdisabled : enabledWhen .rtcIsr s = false) :
    execRtcIsr s = .next (s.refuse .eventNotEnabled) := by
  unfold execRtcIsr
  split
  · next fired hstalled =>
    exact eventStep_of_not_enabled (by simpa [enabledWhen, hstalled, pend] using hdisabled)
  · refine eventStep_of_not_enabled ?_
    cases hhnd : s.hnd with
    | none => simpa [enabledWhen, hhnd, handlerCanStart, Nvic.get] using hdisabled
    | some run => simp [handlerCanStart, hhnd]

/-- Every other event and handler is an `eventStep` whose condition is its rule's "Enabled when" (R530, R544). -/
theorem exec_event_eq_eventStep {i : Instr} (hevent : isOperation i = false) (hi : i ≠ .rtcIsr) :
    ∃ enabled effect, (∀ s, exec i s = eventStep enabled effect s) ∧ ∀ s, enabled s = enabledWhen i s := by
  cases i with
  | rtcIsr => exact absurd rfl hi
  | mTxByteAck | mTxByteNack => exact ⟨_, _, fun _ => rfl, txByteEnabled_eq⟩
  | mTxEnd => exact ⟨_, _, fun _ => rfl, fun _ => by rw [length_beq_zero]; rfl⟩
  | sRxByte b => exact ⟨_, _, fun _ => rfl, fun _ => by rw [slaveMoving_and_dir]; rfl⟩
  | sTxByte => exact ⟨_, _, fun _ => rfl, fun _ => by rw [slaveMoving_and_dir, decide_length_pos]; rfl⟩
  | sTxUnderflow => exact ⟨_, _, fun _ => rfl, fun _ => by rw [slaveMoving_and_dir, length_beq_zero]; rfl⟩
  | rtcAccept | rtcCommit | rtcSecond | rtcFailsafeLatch => exact ⟨_, _, fun _ => rfl, fun _ => rfl⟩
  | mAddrAck | mAddrNack | mRxByte | mRxEnd | mAlost => exact ⟨_, _, fun _ => rfl, fun _ => rfl⟩
  | sAddrMatch | sRepstart | sStop | sGcall => exact ⟨_, _, fun _ => rfl, fun _ => rfl⟩
  | i2cmIsr | i2csIsr | dmaIsr | dmaXfer => exact ⟨_, _, fun _ => rfl, fun _ => rfl⟩
  | _ => simp [isOperation, opcodeOf] at hevent

/-- Settles O7: an event's step asks for its "Enabled when", and `RTC_ISR` for that of its start or of its stall. -/
theorem eventNotEnabledRefused : Obligations.EventNotEnabledRefused := by
  intro i s hevent hdisabled
  by_cases hi : i = .rtcIsr
  · subst hi
    exact execRtcIsr_of_not_enabled hdisabled
  · obtain ⟨enabled, effect, hexec, henabled⟩ := exec_event_eq_eventStep hevent hi
    rw [hexec]
    exact eventStep_of_not_enabled ((henabled s).trans hdisabled)

end Sys2Proof.Machine

/-! Where control stands: no pseudocode enters or leaves a handler or the critical region by itself, and only the rules
of R531 write a line enable. One relation says both of every piece of pseudocode, and the step of each agent adds the
entry and the return around it (60_exceptions.md R531, R533, R542). -/

namespace Sys2Proof.Machine

open Sys2Proof.Cert

/-! ### The relation -/

/-- The active handler and the critical region (10_state.md R84, R86). -/
def contextOf (s : State) : Option HandlerRun × Bool := (s.hnd, s.main.crit)

/-- The context is kept, and the line enables too, unless the rule is one that writes them (R531). -/
structure ControlKept (writes : Bool) (s t : State) : Prop where
  context : contextOf t = contextOf s
  lines : writes = false → t.nvic = s.nvic

/-- Pseudocode that, where it runs to its end, keeps control. -/
def KeepsControl (writes : Bool) (f : State → Run) : Prop := ∀ s, RunsWithin (ControlKept writes) s (f s)

section
variable {w : Bool} {s t u : State}

theorem ControlKept.of_eq (h : (contextOf t, t.nvic) = (contextOf s, s.nvic)) : ControlKept w s t :=
  ⟨congrArg Prod.fst h, fun _ => congrArg Prod.snd h⟩

/-- A rule that writes line enables still keeps the context. -/
theorem ControlKept.of_context (h : contextOf t = contextOf s) : ControlKept true s t :=
  ⟨h, nofun⟩

theorem ControlKept.refl (s : State) : ControlKept w s s := .of_eq rfl

theorem ControlKept.trans (h : ControlKept w s t) (h' : ControlKept w t u) : ControlKept w s u :=
  ⟨h'.context.trans h.context, fun hno => (h'.lines hno).trans (h.lines hno)⟩

theorem DrawnFrom.controlKept (h : DrawnFrom s t) : ControlKept w s t := by
  obtain ⟨e, rfl, _, _⟩ := h
  exact .of_eq rfl

/-! ### Holding, returning and checking -/

theorem ControlKept.retRtc (h : ControlKept w s u) (op : Byte) (c : RtcCode) :
    RunsWithin (ControlKept w) s (retRtc op c u) :=
  runsWithin_ok (h.trans (.of_eq (by rfl)))

theorem ControlKept.retI2c (h : ControlKept w s u) (op : Byte) (c : I2CCode) :
    RunsWithin (ControlKept w) s (retI2c op c u) :=
  runsWithin_ok (h.trans (.of_eq (by rfl)))

variable {f : State → Run}

theorem KeepsControl.after (hf : KeepsControl w f) (h : ControlKept w s u) : RunsWithin (ControlKept w) s (f u) :=
  fun t ht => h.trans (hf u t ht)

theorem KeepsControl.awaitThen (hf : KeepsControl w f) (c : Await) (p : Point) : KeepsControl w (awaitThen c p f) :=
  fun s => runsWithin_ite (fun _ => hf s) fun _ => runsWithin_ok (.of_eq (by rfl))

theorem KeepsControl.swStall (hf : KeepsControl w f) (gs : List Group) (p : Point) :
    KeepsControl w (swStall gs p f) :=
  fun s => runsWithin_ite (fun _ => hf.awaitThen _ p s) fun _ => hf s

theorem KeepsControl.endWait (hf : KeepsControl w f) : KeepsControl w fun s => f (endWait s) :=
  fun _ => hf.after (.of_eq rfl)

theorem KeepsControl.waitThen (hf : KeepsControl w f) (p : Point) : KeepsControl w (waitThen p f) :=
  hf.endWait.awaitThen .signalled p

theorem KeepsControl.gate (hf : KeepsControl w f) (op h : Byte) (fsExempt : Bool) :
    KeepsControl w (gate op h fsExempt f) := by
  intro s
  have hret : ∀ c, RunsWithin (ControlKept w) s (retRtc op c s) := (ControlKept.refl s).retRtc op
  exact runsWithin_ite (fun _ => hret _) fun _ => runsWithin_ite (fun _ => hret _) fun _ =>
    runsWithin_ite (fun _ => hret _) fun _ => hf s

theorem KeepsControl.i2cGate (hf : KeepsControl w f) (op h : Byte) (modes : List Mode) :
    KeepsControl w (i2cGate op h modes f) := by
  intro s
  have hret : ∀ c, RunsWithin (ControlKept w) s (retI2c op c s) := (ControlKept.refl s).retI2c op
  exact runsWithin_ite (fun _ => hret _) fun _ => runsWithin_ite (fun _ => hret _) fun _ =>
    runsWithin_ite (fun _ => hf s) fun _ => hret _

theorem KeepsControl.ifComplete (hf : KeepsControl w f) (op : Byte) : KeepsControl w (ifComplete op f) :=
  fun s => runsWithin_ite (fun _ => hf s) fun _ => (ControlKept.refl s).retI2c op _

theorem KeepsControl.checkMaster (hf : KeepsControl w f) (op : Byte) (sid : U16) (daw : Byte) (size : U16) :
    KeepsControl w (checkMaster op sid daw size f) := by
  intro s
  have hret : RunsWithin (ControlKept w) s (retI2c op .badParam s) := (ControlKept.refl s).retI2c op _
  exact runsWithin_ite (fun _ => hret) fun _ => runsWithin_ite (fun _ => hret) fun _ =>
    runsWithin_ite (fun _ => runsWithin_error _) fun _ => runsWithin_ite (fun _ => runsWithin_error _) fun _ => hf s

theorem KeepsControl.slaveCheck (hf : KeepsControl w f) (op : Byte) (size : U16) :
    KeepsControl w (slaveCheck op size f) :=
  fun s => runsWithin_ite (fun _ => (ControlKept.refl s).retI2c op _) fun _ =>
    runsWithin_ite (fun _ => runsWithin_error _) fun _ => hf s

theorem keepsControl_offPoint : KeepsControl w offPoint := fun _ => runsWithin_error _

theorem keepsControl_noResume (p : Point) : KeepsControl w (noResume p) := keepsControl_offPoint

/-- A resumption at a point of the operation's own, or elsewhere. -/
theorem KeepsControl.resume {g : State → Run} {p q : Point} (hf : KeepsControl w f) (hg : KeepsControl w g) :
    KeepsControl w (if p = q then f else g) := by
  split
  · exact hf
  · exact hg

theorem KeepsControl.resumeAt (hf : KeepsControl w f) (q p : Point) : KeepsControl w (resumeAt q f p) :=
  hf.resume keepsControl_offPoint

end

/-! ### The steps of the agents -/

/-- What a step of an agent keeps. -/
structure StepKept (writes : Bool) (s t : State) : Prop where
  between : BetweenSteps s → BetweenSteps t
  lines : writes = false → t.nvic = s.nvic

section
variable {w : Bool} {s t : State}

theorem ControlKept.stepKept (h : ControlKept w s t) : StepKept w s t := by
  obtain ⟨hhnd, hcrit⟩ := Prod.mk.inj h.context
  exact ⟨fun ⟨hout, hlegal⟩ => ⟨hcrit.trans hout, hhnd ▸ hlegal⟩, h.lines⟩

theorem StepKept.of_eq (h : (contextOf t, t.nvic) = (contextOf s, s.nvic)) : StepKept w s t :=
  (ControlKept.of_eq h).stepKept

/-- A handler that has returned is not holding, whatever its body did with the register. -/
theorem stepKept_leaveHandler (hcrit : t.main.crit = s.main.crit) (hlines : w = false → t.nvic = s.nvic) :
    StepKept w s (leaveHandler t) :=
  ⟨fun ⟨hout, _⟩ => ⟨hcrit.trans hout, rfl⟩, hlines⟩

/-- A main segment leaves the critical region that it enters (R542). -/
theorem stepKept_segment (h : ControlKept w (enterCritical s) t) : StepKept w s (leaveCritical t) := by
  obtain ⟨hhnd, _⟩ := Prod.mk.inj h.context
  exact ⟨fun ⟨_, hlegal⟩ => ⟨rfl, hhnd ▸ hlegal⟩, h.lines⟩

theorem stepKept_mainStep {start : State → Run} {resume : Point → State → Run} (hs : KeepsControl w start)
    (hr : ∀ p, KeepsControl w (resume p)) (s : State) : StepsWithin (StepKept w) s (mainStep start resume s) := by
  intro v hv
  rcases mainStep_next hv with rfl | ⟨t, ht, rfl⟩ | ⟨p, t, ht, rfl⟩ | ⟨f, rfl⟩ | ⟨c, rfl⟩ | rfl
  · exact .of_eq rfl
  · exact stepKept_segment (hs _ t ht)
  · exact stepKept_segment (hr p _ t ht)
  · exact .of_eq rfl
  · exact .of_eq rfl
  · exact .of_eq rfl

theorem stepKept_eventStep {enabled : State → Bool} {effect : State → Run}
    (he : ∀ s, RunsWithin (StepKept w) s (effect s)) (s : State) :
    StepsWithin (StepKept w) s (eventStep enabled effect s) := by
  intro v hv
  rcases eventStep_next hv with ⟨_, ht⟩ | ⟨f, rfl⟩ | ⟨c, rfl⟩
  · exact he s v ht
  · exact .of_eq rfl
  · exact .of_eq rfl

/-- A hardware event, which has no context of its own. -/
theorem KeepsControl.eventStep {enabled : State → Bool} {effect : State → Run} (he : KeepsControl w effect)
    (s : State) : StepsWithin (StepKept w) s (eventStep enabled effect s) :=
  stepKept_eventStep (fun s t ht => (he s t ht).stepKept) s

theorem KeepsControl.handlerStep {h : Handler} {l : Line} {req : State → Bool} {body : State → Run}
    (hb : KeepsControl w body) (s : State) : StepsWithin (StepKept w) s (handlerStep h l req body s) := by
  refine stepKept_eventStep (fun s => runsWithin_map fun t ht => ?_) s
  have hbody : ControlKept w (enterHandler h s) t := hb _ t ht
  exact stepKept_leaveHandler (congrArg Prod.snd hbody.context) hbody.lines

theorem KeepsControl.gated_mainStep {op h : Byte} {fsExempt : Bool} {body : State → Run} (hb : KeepsControl w body)
    (s : State) : StepsWithin (StepKept w) s (mainStep (Machine.gate op h fsExempt body) noResume s) :=
  stepKept_mainStep (hb.gate op h fsExempt) keepsControl_noResume s

theorem KeepsControl.stalled_mainStep {op h : Byte} {fsExempt : Bool} {gs : List Group} {body : State → Run}
    (hb : KeepsControl w body) (s : State) :
    StepsWithin (StepKept w) s
      (mainStep (Machine.gate op h fsExempt (Machine.swStall gs .stall body)) (Machine.resumeAt .stall body) s) :=
  stepKept_mainStep ((hb.swStall gs .stall).gate op h fsExempt) (hb.resumeAt .stall) s

theorem KeepsControl.i2cGated_mainStep {op h : Byte} {modes : List Mode} {body : State → Run}
    (hb : KeepsControl w body) (s : State) :
    StepsWithin (StepKept w) s (mainStep (Machine.i2cGate op h modes body) noResume s) :=
  stepKept_mainStep (hb.i2cGate op h modes) keepsControl_noResume s

end

/-! ### The RTC group (40_rtc_ops.md, 41_rtc_hw.md) -/

section
variable {w : Bool}

theorem post_controlKept (g : Group) (v : U16) (s : State) : ControlKept w s (post g v s) := by
  rcases post_cases g v s with ⟨_, h⟩ | ⟨e, p, _, _, _, h⟩
  · rw [h]
    exact .of_eq rfl
  · rw [h]
    exact .of_eq rfl

theorem postSplit_controlKept (lo hi : Group) (v : U32) (s : State) : ControlKept w s (postSplit lo hi v s) :=
  (post_controlKept lo _ s).trans (post_controlKept hi _ _)

/-- The last part of most writing operations: a post, and the return. -/
theorem keepsControl_post_retRtc (op : Byte) (c : RtcCode) (g : Group) (v : State → U16) :
    KeepsControl w fun s => retRtc op c (post g (v s) s) :=
  fun s => (post_controlKept g (v s) s).retRtc op c

theorem keepsControl_retRtc (op : Byte) (c : RtcCode) : KeepsControl w (retRtc op c) :=
  fun s => (ControlKept.refl s).retRtc op c

theorem controlEnable_stepKept (op h : Byte) (m : U16) (b : Bool) (s : State) :
    StepsWithin (StepKept w) s (controlEnable op h m b s) :=
  (keepsControl_post_retRtc op .success .control fun s => setOrClear b (rd s .control) m).stalled_mainStep s

theorem gatedGetter_stepKept (op h : Byte) (value : State → U32) (s : State) :
    StepsWithin (StepKept w) s (gatedGetter op h value s) :=
  KeepsControl.gated_mainStep (fun _ => runsWithin_ok (.of_eq (by rfl))) s

/-- R214, R218: the core line is disabled around the reads, and then set back. -/
theorem pairedRead_keepsControl (op : Byte) (lo hi : Group) : KeepsControl w (pairedRead op lo hi) := by
  intro s
  have hrestored : ((s.setLine .rtc false).setLine .rtc (s.nvic.get .rtc)).nvic = s.nvic :=
    congrArg State.nvic (setLine_setLine_get s .rtc false)
  exact runsWithin_ok ⟨rfl, fun _ => hrestored⟩

theorem rtcInitFinish_keepsControl : KeepsControl true rtcInitFinish := fun s =>
  runsWithin_ok ((post_controlKept .status0 _ s).trans (.of_context (by rfl)))

theorem rtcInitControl_keepsControl : KeepsControl true rtcInitControl := fun s =>
  (rtcInitFinish_keepsControl.swStall [.status0] .statusStall).after (post_controlKept .control _ s)

theorem rtcInitStart_keepsControl (id : Byte) : KeepsControl true (rtcInitStart id) := by
  intro s
  have hret : ∀ c, RunsWithin (ControlKept true) s (retRtc 0x00#8 c s) := (ControlKept.refl s).retRtc _
  refine runsWithin_ite (fun _ => hret _) fun _ => runsWithin_ite (fun _ => hret _) fun _ => ?_
  refine runsWithin_ite (fun _ => (ControlKept.of_eq (by rfl)).retRtc _ _) fun _ => ?_
  exact (rtcInitControl_keepsControl.swStall [.control] .stall).after (.of_eq (by rfl))

theorem enableInterruptsLine_keepsControl (b : Bool) : KeepsControl true (enableInterruptsLine b) := fun _ =>
  (ControlKept.of_context (by rfl)).retRtc _ _

theorem enableInterruptsPost_keepsControl (mask : U16) (b : Bool) : KeepsControl true (enableInterruptsPost mask b) :=
  fun s => (enableInterruptsLine_keepsControl b).after (post_controlKept .control _ s)

theorem execRtcEnableInterrupts_stepKept (h : Byte) (mask : U16) (b : Bool) (s : State) :
    StepsWithin (StepKept true) s (execRtcEnableInterrupts h mask b s) := by
  have hpost := enableInterruptsPost_keepsControl mask b
  refine stepKept_mainStep (KeepsControl.gate (fun s => ?_) 0x07#8 h false) (hpost.resumeAt .stall) s
  exact runsWithin_ite (fun _ => (ControlKept.refl s).retRtc _ _) fun _ =>
    runsWithin_ite (fun _ => hpost.swStall [.control] .stall s) fun _ => enableInterruptsLine_keepsControl b s

theorem setCountClear_keepsControl : KeepsControl w setCountClear :=
  keepsControl_post_retRtc _ _ .status0 fun _ => failsafeMask

theorem setCountPost_keepsControl (v : U32) : KeepsControl w (setCountPost v) := by
  intro s
  have hpost : ControlKept w s (postSplit .countLo .countHi v s) := postSplit_controlKept _ _ v s
  exact runsWithin_ite (fun _ => (setCountClear_keepsControl.swStall [.status0] .statusStall).after hpost) fun _ =>
    hpost.retRtc _ _

theorem execRtcClearInterruptStatus_stepKept (h : Byte) (mask : U16) (s : State) :
    StepsWithin (StepKept w) s (execRtcClearInterruptStatus h mask s) := by
  have hpost : KeepsControl w (clearStatusPost mask) := keepsControl_post_retRtc _ _ .status0 fun _ => mask
  refine stepKept_mainStep (KeepsControl.gate (fun s => ?_) 0x10#8 h true) (hpost.resumeAt .stall) s
  have hret : ∀ c, RunsWithin (ControlKept w) s (retRtc 0x10#8 c s) := (ControlKept.refl s).retRtc _
  exact runsWithin_ite (fun _ => hret _) fun _ => runsWithin_ite (fun _ => hret _) fun _ =>
    runsWithin_ite (fun _ => hret _) fun _ => hpost.swStall [.status0] .stall s

theorem commitWrite_controlKept (g : Group) (s : State) : ControlKept w s (commitWrite g s) := by
  unfold commitWrite
  split
  · exact .of_eq rfl
  · exact .refl s

theorem alarmCompare_controlKept (s : State) : ControlKept w s (alarmCompare s) := by
  unfold alarmCompare
  split
  · exact .of_eq rfl
  · exact .refl s

theorem execRtcAccept_stepKept (g : Group) (s : State) : StepsWithin (StepKept w) s (execRtcAccept g s) :=
  KeepsControl.eventStep (fun _ => runsWithin_ok (.of_eq (by rfl))) s

theorem execRtcCommit_stepKept (g : Group) (s : State) : StepsWithin (StepKept w) s (execRtcCommit g s) :=
  KeepsControl.eventStep (fun s => runsWithin_ok (commitWrite_controlKept g s)) s

theorem execRtcSecond_stepKept (s : State) : StepsWithin (StepKept w) s (execRtcSecond s) :=
  KeepsControl.eventStep
    (fun _ => runsWithin_ok (ControlKept.trans (.of_eq (by rfl)) (alarmCompare_controlKept _))) s

theorem execRtcFailsafeLatch_stepKept (s : State) : StepsWithin (StepKept w) s (execRtcFailsafeLatch s) :=
  KeepsControl.eventStep
    (fun s => runsWithin_ok ((drawRtc_state s).controlKept.trans (.of_eq (by rfl)))) s

theorem rtcCallback_controlKept (fired : U16) (s : State) : ControlKept w s (rtcCallback fired s) := by
  rw [rtcCallback_eq]
  split
  · exact .of_eq rfl
  · exact .refl s

theorem rtcIsrClear_stepKept {s t : State} (fired : U16) (hcrit : t.main.crit = s.main.crit)
    (hlines : t.nvic = s.nvic) : StepKept w s (rtcIsrClear fired t) := by
  have hpost : ControlKept false t (post .status0 fired t) := post_controlKept .status0 fired t
  exact stepKept_leaveHandler ((congrArg Prod.snd hpost.context).trans hcrit) fun _ => (hpost.lines rfl).trans hlines

/-- R280, R84: from its start the handler holds in its stall, or returns. -/
theorem rtcIsrStart_stepKept (s : State) : StepKept w s (rtcIsrStart s) := by
  have hcb : ControlKept false (enterHandler .rtcIsr s) (rtcCallback (rtcFired s) (enterHandler .rtcIsr s)) :=
    rtcCallback_controlKept _ _
  have hcrit := congrArg Prod.snd hcb.context
  unfold rtcIsrStart
  dsimp only
  split
  · exact ⟨fun ⟨hout, _⟩ => ⟨hcrit.trans hout, rfl⟩, fun _ => hcb.lines rfl⟩
  · exact rtcIsrClear_stepKept _ hcrit (hcb.lines rfl)

theorem execRtcIsr_stepKept (s : State) : StepsWithin (StepKept w) s (execRtcIsr s) := by
  unfold execRtcIsr
  split
  · exact stepKept_eventStep (fun _ => runsWithin_ok (rtcIsrClear_stepKept _ rfl rfl)) s
  · exact stepKept_eventStep (fun s => runsWithin_ok (rtcIsrStart_stepKept s)) s

/-- The instructions of the RTC group: only three of them write the core line (R531). -/
theorem exec_rtc_stepKept {i : Instr} (hi : rtcGroup i = true) (s : State) :
    StepsWithin (StepKept (writesLines i)) s (exec i s) := by
  cases i with
  | rtcInit id =>
    exact stepKept_mainStep (w := true) (rtcInitStart_keepsControl id)
      (fun _ => rtcInitControl_keepsControl.resume (rtcInitFinish_keepsControl.resume keepsControl_offPoint)) s
  | rtcUnInit h =>
    exact KeepsControl.gated_mainStep (w := true) (fun _ => (ControlKept.of_context (by rfl)).retRtc _ _) s
  | rtcEnableInterrupts h mask b => exact execRtcEnableInterrupts_stepKept h mask b s
  | rtcClearFailSafe =>
    have hpost {w : Bool} : KeepsControl w clearFailSafePost :=
      keepsControl_post_retRtc _ _ .status0 fun _ => failsafeMask
    exact stepKept_mainStep (hpost.awaitThen _ .stall) (hpost.resumeAt .stall) s
  | rtcEnableDevice h b => exact controlEnable_stepKept _ h _ b s
  | rtcEnableAlarm h b => exact controlEnable_stepKept _ h _ b s
  | rtcEnableTrim h b => exact controlEnable_stepKept _ h _ b s
  | rtcEnableLcdUpdate h b => exact controlEnable_stepKept _ h _ b s
  | rtcEnableSafeWrites h b => exact KeepsControl.gated_mainStep (fun _ => (ControlKept.of_eq (by rfl)).retRtc _ _) s
  | rtcGetCount h => exact (pairedRead_keepsControl _ _ _).gated_mainStep s
  | rtcGetAlarm h => exact (pairedRead_keepsControl _ _ _).gated_mainStep s
  | rtcSetCount h v =>
    exact stepKept_mainStep (((setCountPost_keepsControl v).swStall _ _).gate _ h _)
      (fun _ => (setCountPost_keepsControl v).resume (setCountClear_keepsControl.resume keepsControl_offPoint)) s
  | rtcSetAlarm h v =>
    exact KeepsControl.stalled_mainStep (fun s => (postSplit_controlKept .alarmLo .alarmHi v s).retRtc _ _) s
  | rtcSetTrim h v =>
    exact (keepsControl_post_retRtc _ _ .trim fun s => v &&& trimMask s.cfg.trimLayout).stalled_mainStep s
  | rtcGetTrim h => exact gatedGetter_stepKept _ h _ s
  | rtcGetInterruptStatus h => exact gatedGetter_stepKept _ h _ s
  | rtcGetWritePendStatus h => exact gatedGetter_stepKept _ h _ s
  | rtcGetWriteSyncStatus h => exact gatedGetter_stepKept _ h _ s
  | rtcGetWriteErrorSource h => exact gatedGetter_stepKept _ h _ s
  | rtcClearInterruptStatus h mask => exact execRtcClearInterruptStatus_stepKept h mask s
  | rtcSynchronizeAllWrites h =>
    exact stepKept_mainStep (((keepsControl_retRtc _ _).awaitThen _ .stall).gate _ h _)
      ((keepsControl_retRtc _ _).resumeAt .stall) s
  | rtcRegisterCallback h cb watch =>
    exact KeepsControl.gated_mainStep (fun _ => (ControlKept.of_eq (by rfl)).retRtc _ _) s
  | rtcAccept g => exact execRtcAccept_stepKept g s
  | rtcCommit g => exact execRtcCommit_stepKept g s
  | rtcSecond => exact execRtcSecond_stepKept s
  | rtcFailsafeLatch => exact execRtcFailsafeLatch_stepKept s
  | rtcIsr => exact execRtcIsr_stepKept s
  | _ => simp [rtcGroup, opcodeOf] at hi

end

end Sys2Proof.Machine

/-! The I2C group keeps control, and only the initializations, `I2C_UnInit`, `I2C_SetDmaMode` and the transfers write
its line enables; so no instruction and no reset leaves anything but `RTC_ISR` holding (60_exceptions.md R531, R542). -/

namespace Sys2Proof.Machine

open Sys2Proof.Cert

section
variable {w : Bool}

/-! ### Pseudocode in parts -/

theorem keepsControl_ok {update : State → State} (h : ∀ s, ControlKept w s (update s)) :
    KeepsControl w fun s => .ok (update s) :=
  fun s => runsWithin_ok (h s)

/-- The last part `f` of pseudocode in parts runs on what the parts before it leave. -/
theorem KeepsControl.bind {f : State → Run} {s : State} {x : Run} (hf : KeepsControl w f)
    (hx : RunsWithin (ControlKept w) s x) : RunsWithin (ControlKept w) s (x >>= f) :=
  runsWithin_bind fun t ht => hf.after (hx t ht)

/-! ### FIFOs, memory and completion -/

theorem pushMTx_keepsControl (b : Byte) : KeepsControl w (pushMTx b) := by
  intro s t h
  obtain ⟨_, rfl⟩ := pushMTx_ok h
  exact .of_eq rfl

theorem pushMRx_keepsControl (b : Byte) : KeepsControl w (pushMRx b) := by
  intro s t h
  obtain ⟨_, rfl⟩ := pushMRx_ok h
  exact .of_eq rfl

theorem pushSTx_keepsControl (b : Byte) : KeepsControl w (pushSTx b) := by
  intro s t h
  obtain ⟨_, rfl⟩ := pushSTx_ok h
  exact .of_eq rfl

theorem pushSRx_keepsControl (b : Byte) : KeepsControl w (pushSRx b) := by
  intro s t h
  obtain ⟨_, rfl⟩ := pushSRx_ok h
  exact .of_eq rfl

theorem memWrite_keepsControl (a : Addr) (v : Byte) : KeepsControl w (memWrite a v) := by
  intro s t h
  obtain ⟨_, rfl⟩ := memWrite_ok h
  exact .of_eq rfl

theorem popMTx_controlKept {s : State} {p : Byte × State} (h : popMTx s = .ok p) : ControlKept w s p.2 := by
  obtain ⟨f, _, hp⟩ := popMTx_ok h
  rw [hp]
  exact .of_eq rfl

theorem popMRx_controlKept {s : State} {p : Byte × State} (h : popMRx s = .ok p) : ControlKept w s p.2 := by
  obtain ⟨f, _, hp⟩ := popMRx_ok h
  rw [hp]
  exact .of_eq rfl

theorem popSTx_controlKept {s : State} {p : Byte × State} (h : popSTx s = .ok p) : ControlKept w s p.2 := by
  obtain ⟨f, _, hp⟩ := popSTx_ok h
  rw [hp]
  exact .of_eq rfl

theorem popSRx_controlKept {s : State} {p : Byte × State} (h : popSRx s = .ok p) : ControlKept w s p.2 := by
  obtain ⟨f, _, hp⟩ := popSRx_ok h
  rw [hp]
  exact .of_eq rfl

theorem signalCompletion_controlKept (r : I2CResult) (s : State) : ControlKept w s (signalCompletion r s) := by
  rcases signalCompletion_cases r s with ⟨_, h⟩ | ⟨_, h⟩
  · rw [h]
    exact .refl s
  · rw [h]
    exact .of_eq rfl

/-- A completion signalled after an update of what is no control. -/
theorem ControlKept.signalCompletion {s t : State} (h : ControlKept w s t) (r : I2CResult) :
    ControlKept w s (signalCompletion r t) :=
  h.trans (signalCompletion_controlKept r t)

/-! ### DMA (44_i2c_dma.md) -/

theorem dmaSyncRem_controlKept (c : Chan) (s : State) : ControlKept w s (dmaSyncRem c s) := by
  rw [dmaSyncRem_eq]
  exact .of_eq rfl

theorem scheduleNext_controlKept (s : State) : ControlKept w s (scheduleNext s) := by
  rw [scheduleNext_eq]
  exact .of_eq rfl

theorem dmaStart_controlKept (c : Chan) (buf : Addr) (size : Nat) (s : State) :
    ControlKept w s (dmaStart c buf size s) := by
  have harm : ControlKept w s (dmaArm c buf size s) := .of_eq rfl
  have hscheduled := harm.trans ((scheduleNext_controlKept _).trans (scheduleNext_controlKept _))
  have henable : ∀ t, ControlKept w t (dmaEnable c t) := fun _ => .of_eq rfl
  rw [dmaStart_eq]
  exact hscheduled.trans ((henable _).trans (dmaSyncRem_controlKept c _))

/-- A transfer's start after an update of the driver's own fields, its direction or its channel. -/
theorem dmaStart_setDriver_controlKept (c : Chan) (buf : Addr) (size : Nat) (d : I2cDriver) (s : State) :
    ControlKept w s (dmaStart c buf size { s with i2cd := d }) :=
  ControlKept.trans (.of_eq (by rfl)) (dmaStart_controlKept c buf size _)

theorem moveElement_keepsControl (c : Chan) (d : Desc) : KeepsControl w (moveElement c d) := by
  refine fun s => runsWithin_ite (fun _ => runsWithin_bind fun b _ => ?_) fun _ => ?_
  · cases c with
    | m => exact pushMTx_keepsControl b s
    | stx => exact pushSTx_keepsControl b s
    | srx => exact runsWithin_error _
  · cases c with
    | m => exact runsWithin_bind fun _ hp => (memWrite_keepsControl _ _).after (popMRx_controlKept hp)
    | stx => exact runsWithin_error _
    | srx => exact runsWithin_bind fun _ hp => (memWrite_keepsControl _ _).after (popSRx_controlKept hp)

theorem execDmaXfer_stepKept (c : Chan) (s : State) : StepsWithin (StepKept w) s (execDmaXfer c s) :=
  KeepsControl.eventStep
    (fun s => (keepsControl_ok fun _ => .of_eq (by rfl)).bind (moveElement_keepsControl c _ s)) s

theorem dmaService_keepsControl (c : Chan) : KeepsControl w (dmaService c) := by
  intro s
  have hdone : ControlKept w s (s.setChannel c { s.dma.get c with done := false }) := .of_eq rfl
  refine runsWithin_ite (fun _ => runsWithin_ok hdone) fun _ => ?_
  refine runsWithin_ite (fun _ => runsWithin_ok (hdone.trans ?_)) fun _ => ?_
  · rw [dmaComplete_eq]
    exact (ControlKept.of_eq (by rfl)).signalCompletion _
  refine runsWithin_ite (fun _ => ?_) fun _ => runsWithin_ok hdone
  refine runsWithin_ite (fun _ => runsWithin_error _) fun _ => runsWithin_ok ?_
  exact hdone.trans ((scheduleNext_controlKept _).trans (dmaSyncRem_controlKept c _))

theorem execDmaIsr_stepKept (c : Chan) (s : State) : StepsWithin (StepKept w) s (execDmaIsr c s) :=
  (dmaService_keepsControl c).handlerStep s

/-! ### Lifecycle and configuration (42_i2c_master.md R320 to R328) -/

theorem drawBool_controlKept (s : State) : ControlKept w s (drawBool s).2 := (drawBool_state s).controlKept

/-- Taking or releasing the channels writes their lines' enables (R463, R464, R531). -/
theorem ownership_controlKept (b : Bool) (s : State) :
    ControlKept true s (if b then dmaTakeChannels s else dmaReleaseChannels s).2 := by
  have hset : ∀ t, ControlKept true t (channelsSet b t) := by
    intro t
    unfold channelsSet
    split
    · exact .of_context rfl
    · exact .of_context rfl
  rw [ownership_eq]
  dsimp only
  split
  · exact (drawBool_controlKept s).trans (hset _)
  · exact drawBool_controlKept s

theorem i2cInit_keepsControl (op id : Byte) (mode : Mode) {setup : State → State}
    (hsetup : ∀ s, ControlKept true s (setup s)) : KeepsControl true (i2cInit op id mode setup) := by
  intro s
  have hret : ∀ c, RunsWithin (ControlKept true) s (retI2c op c s) := (ControlKept.refl s).retI2c op
  have hdraw : ControlKept true s (if s.cfg.rtos then drawBool s else (true, s)).2 := by
    split
    · exact drawBool_controlKept s
    · exact .refl s
  refine runsWithin_ite (fun _ => hret _) fun _ => runsWithin_ite (fun _ => hret _) fun _ => ?_
  have hdriver : ∀ t : State, ControlKept true t { t with i2cd := initializedDriver mode } := fun _ => .of_eq rfl
  refine runsWithin_ite (fun _ => runsWithin_ok (hdraw.trans ?_)) fun _ => hdraw.retI2c _ _
  exact (hdriver _).trans ((hsetup _).trans (.of_eq (by rfl)))

theorem unInitFinish_keepsControl : KeepsControl true unInitFinish := fun _ =>
  (ControlKept.of_context (by rfl)).retI2c _ _

theorem unInitBody_keepsControl : KeepsControl true unInitBody := by
  intro s
  have hreleased : ControlKept true s (dmaReleaseChannels s).2 := ownership_controlKept false s
  refine runsWithin_ite (fun _ => (ControlKept.refl s).retI2c _ _) fun _ => ?_
  refine runsWithin_ite (fun _ => ?_) fun _ => unInitFinish_keepsControl s
  exact runsWithin_ite (fun _ => unInitFinish_keepsControl.after hreleased) fun _ => hreleased.retI2c _ _

theorem setBlockingBody_keepsControl (b : Bool) : KeepsControl w (setBlockingBody b) := fun s =>
  runsWithin_ite (fun _ => (ControlKept.refl s).retI2c _ _) fun _ => (ControlKept.of_eq (by rfl)).retI2c _ _

theorem setDmaBody_keepsControl (b : Bool) : KeepsControl true (setDmaBody b) := by
  intro s
  have howned := ownership_controlKept b s
  have hret : ∀ c, RunsWithin (ControlKept true) s (retI2c 0x44#8 c s) := (ControlKept.refl s).retI2c _
  refine runsWithin_ite (fun _ => hret _) fun _ => runsWithin_ite (fun _ => hret _) fun _ => ?_
  exact runsWithin_ite (fun _ => (howned.trans (.of_eq (by rfl))).retI2c _ _) fun _ => howned.retI2c _ _

theorem setSlaveAddressBody_keepsControl (v : U16) : KeepsControl w (setSlaveAddressBody v) := fun s =>
  runsWithin_ite (fun _ => (ControlKept.refl s).retI2c _ _) fun _ => (ControlKept.of_eq (by rfl)).retI2c _ _

/-! ### The shared procedures of the master (42_i2c_master.md R329 to R340) -/

theorem writeAdr1_controlKept (b : Byte) (s : State) : ControlKept w s (writeAdr1 b s) := by
  obtain ⟨m, trace, hwrite, _, _⟩ := writeAdr1_form b s
  rw [hwrite]
  exact .of_eq rfl

theorem launch_controlKept (sid : U16) (d : Dir) (s : State) : ControlKept w s (launch sid d s) := by
  unfold launch
  split
  · exact ControlKept.trans (.of_eq (by rfl)) (writeAdr1_controlKept _ _)
  · exact writeAdr1_controlKept _ s

theorem pumpTx_keepsControl : KeepsControl w pumpTx := by
  intro s
  have hfilled {update : State → I2cDriver} : KeepsControl w fun t => .ok { t with i2cd := update t } :=
    keepsControl_ok fun _ => .of_eq rfl
  refine runsWithin_ite (fun _ => hfilled.bind (pushMTx_keepsControl _ s)) fun _ => ?_
  refine runsWithin_ite (fun _ => runsWithin_bind fun b _ => hfilled.bind (pushMTx_keepsControl b s)) fun _ => ?_
  exact runsWithin_ok ((ControlKept.of_eq (by rfl)).signalCompletion _)

theorem pumpRx_keepsControl : KeepsControl w pumpRx := by
  intro s
  have hbyte : RunsWithin (ControlKept w) s (pumpRxByte s) := by
    refine runsWithin_ite (fun _ => runsWithin_bind fun p hp => ?_) fun _ => runsWithin_ok (.refl s)
    exact (keepsControl_ok fun _ => .of_eq (by rfl)).bind
      ((memWrite_keepsControl _ _).after (popMRx_controlKept hp))
  refine runsWithin_map fun t ht => (hbyte t ht).trans ?_
  unfold pumpRxEnd
  split
  · exact (ControlKept.of_eq (by rfl)).signalCompletion _
  · exact .refl t

/-! ### The master transfers (42_i2c_master.md R330, R331) -/

theorem transferReturn_keepsControl (op : Byte) : KeepsControl w (transferReturn op) := fun s =>
  (ControlKept.refl s).retI2c _ _

theorem transferEnd_keepsControl (op : Byte) : KeepsControl w (transferEnd op) := fun s =>
  runsWithin_ite (fun _ => (transferReturn_keepsControl op).waitThen .done s) fun _ => (ControlKept.refl s).retI2c _ _

theorem transmitEngine_keepsControl (buf : Addr) (size : U16) (rs : Bool) :
    KeepsControl w (transmitEngine buf size rs) := fun s =>
  runsWithin_ite (fun _ => pumpTx_keepsControl.after (.of_eq (by rfl))) fun _ =>
    runsWithin_ok ((dmaStart_setDriver_controlKept .m buf size.toNat _ s).trans (.of_eq (by rfl)))

/-- The setup of a transfer enables the line of its mode (R332, R531). -/
theorem transmitIdle_keepsControl (sid : U16) (daddr : U32) (daw : Byte) (buf : Addr) (size : U16) (rs : Bool) :
    KeepsControl true (transmitIdle sid daddr daw buf size rs) := by
  intro s
  have hlaunch : KeepsControl true fun t => transferEnd 0x48#8 (launch sid .W t) := fun t =>
    (transferEnd_keepsControl _).after (launch_controlKept sid .W t)
  exact hlaunch.bind ((transmitEngine_keepsControl buf size rs).after (.of_context (by rfl)))

theorem execI2cMasterTransmit_stepKept (h : Byte) (sid : U16) (daddr : U32) (daw : Byte) (buf : Addr) (size : U16)
    (rs : Bool) (s : State) : StepsWithin (StepKept true) s (execI2cMasterTransmit h sid daddr daw buf size rs s) := by
  have hidle := transmitIdle_keepsControl sid daddr daw buf size rs
  have hreturn := (transferReturn_keepsControl (w := true) 0x48#8).endWait
  exact stepKept_mainStep (((hidle.awaitThen .masterIdle .idle).checkMaster _ sid daw size).i2cGate _ h _)
    (fun _ => hidle.resume (hreturn.resume keepsControl_offPoint)) s

theorem receiveEngine_controlKept (buf : Addr) (size : U16) (rs : Bool) (s : State) :
    ControlKept w s (receiveEngine buf size rs s) := by
  unfold receiveEngine
  split
  · exact .of_eq rfl
  · exact (dmaStart_setDriver_controlKept .m buf size.toNat _ s).trans (.of_eq (by rfl))

theorem receiveIdle_keepsControl (sid : U16) (buf : Addr) (size : U16) (rs : Bool) :
    KeepsControl true (receiveIdle sid buf size rs) := by
  intro s
  have hfields : ControlKept true s (receiveFields sid buf size rs s) := by
    rw [receiveFields_eq]
    exact .of_context rfl
  exact (transferEnd_keepsControl _).after
    (hfields.trans ((receiveEngine_controlKept buf size rs _).trans (launch_controlKept sid .R _)))

theorem receivePhase_keepsControl (sid : U16) (buf : Addr) (size : U16) (rs : Bool) :
    KeepsControl true (receivePhase sid buf size rs) :=
  (receiveIdle_keepsControl sid buf size rs).awaitThen .masterIdle .idle

theorem subEnd_keepsControl (sid : U16) (buf : Addr) (size : U16) : KeepsControl true (subEnd sid buf size) := fun s =>
  runsWithin_ite (fun _ => receivePhase_keepsControl sid buf size false s) fun _ => (ControlKept.refl s).retI2c _ _

theorem subTransaction_keepsControl (sid : U16) (daddr : U32) (daw : Byte) (buf : Addr) (size : U16) (rs : Bool) :
    KeepsControl true (subTransaction sid daddr daw buf size rs) := by
  intro s
  have hlaunch : KeepsControl true fun t => waitThen .subDone (subEnd sid buf size) (launch sid .W t) := fun t =>
    ((subEnd_keepsControl sid buf size).waitThen .subDone).after (launch_controlKept sid .W t)
  exact hlaunch.bind (pumpTx_keepsControl.after (.of_context (by rfl)))

theorem receiveStart_keepsControl (sid : U16) (daddr : U32) (daw : Byte) (buf : Addr) (size : U16) (rs : Bool) :
    KeepsControl true (receiveStart sid daddr daw buf size rs) := fun s =>
  runsWithin_ite (fun _ => (subTransaction_keepsControl sid daddr daw buf size rs).awaitThen .masterIdle .subIdle s)
    fun _ => receivePhase_keepsControl sid buf size rs s

theorem execI2cMasterReceive_stepKept (h : Byte) (sid : U16) (daddr : U32) (daw : Byte) (buf : Addr) (size : U16)
    (rs : Bool) (s : State) : StepsWithin (StepKept true) s (execI2cMasterReceive h sid daddr daw buf size rs s) := by
  have hsub := subTransaction_keepsControl sid daddr daw buf size rs
  have hsubEnd := (subEnd_keepsControl sid buf size).endWait
  have hidle := receiveIdle_keepsControl sid buf size (readRepeat daw rs)
  have hreturn := (transferReturn_keepsControl (w := true) 0x49#8).endWait
  exact stepKept_mainStep
    (((receiveStart_keepsControl sid daddr daw buf size rs).checkMaster _ sid daw size).i2cGate _ h _)
    (fun _ => hsub.resume (hsubEnd.resume (hidle.resume (hreturn.resume keepsControl_offPoint)))) s

/-! ### The slave transfers (43_i2c_slave.md R410, R411) -/

theorem slaveTxByte_keepsControl : KeepsControl w slaveTxByte := fun s =>
  runsWithin_bind fun b _ => (keepsControl_ok fun _ => .of_eq (by rfl)).bind (pushSTx_keepsControl b s)

theorem slaveBurst_keepsControl : ∀ n : Nat, KeepsControl w (slaveBurst n)
  | 0 => fun s => runsWithin_ok (.refl s)
  | n + 1 => fun s =>
    runsWithin_ite (fun _ => (slaveBurst_keepsControl n).bind (slaveTxByte_keepsControl s)) fun _ =>
      runsWithin_ok (.refl s)

theorem slaveTransmitEngine_keepsControl (buf : Addr) (size : U16) :
    KeepsControl w (slaveTransmitEngine buf size) := by
  intro s
  refine runsWithin_ite (fun _ => ?_) fun _ => runsWithin_ok ?_
  · exact (keepsControl_ok fun _ => .of_eq (by rfl)).bind (slaveBurst_keepsControl size.toNat s)
  · exact (dmaStart_setDriver_controlKept .stx buf size.toNat _ s).trans (.of_eq (by rfl))

theorem slaveReceiveEngine_controlKept (buf : Addr) (size : U16) (s : State) :
    ControlKept w s (slaveReceiveEngine buf size s) := by
  unfold slaveReceiveEngine
  split
  · exact .of_eq rfl
  · exact (dmaStart_setDriver_controlKept .srx buf size.toNat _ s).trans (.of_eq (by rfl))

theorem slaveReturn_keepsControl (op : Byte) : KeepsControl w (slaveReturn op) :=
  keepsControl_ok fun _ => .of_eq rfl

theorem slaveCallEnd_keepsControl (op : Byte) : KeepsControl w (slaveCallEnd op) := fun s =>
  runsWithin_ite (fun _ => (slaveReturn_keepsControl op).waitThen .done s) fun _ => (ControlKept.refl s).retI2c _ _

theorem slaveRelease_slaveCallEnd_keepsControl (op : Byte) : KeepsControl w fun s => slaveCallEnd op (slaveRelease s) :=
  fun _ => (slaveCallEnd_keepsControl op).after (.of_eq rfl)

theorem slaveTransmitIdle_keepsControl (buf : Addr) (size : U16) : KeepsControl true (slaveTransmitIdle buf size) :=
  fun _ => (slaveRelease_slaveCallEnd_keepsControl _).bind
    ((slaveTransmitEngine_keepsControl buf size).after (.of_context (by rfl)))

theorem slaveReceiveIdle_keepsControl (buf : Addr) (size : U16) : KeepsControl true (slaveReceiveIdle buf size) :=
  fun _ => (slaveRelease_slaveCallEnd_keepsControl _).after
    (ControlKept.trans (.of_context (by rfl)) (slaveReceiveEngine_controlKept buf size _))

theorem slaveCall_stepKept (op h : Byte) (size : U16) {idle : State → Run} (hidle : KeepsControl w idle) (s : State) :
    StepsWithin (StepKept w) s (slaveCall op h size idle s) := by
  have hreturn := (slaveReturn_keepsControl (w := w) op).endWait
  refine stepKept_mainStep (KeepsControl.i2cGate (fun s => ?_) op h [.slave])
    (fun _ => hidle.resume (hreturn.resume keepsControl_offPoint)) s
  exact runsWithin_ite (fun _ => (ControlKept.refl s).retI2c _ _) fun _ =>
    (hidle.awaitThen .slaveIdle .idle).slaveCheck op size s

/-! ### The bus events (42_i2c_master.md R360 to R368, 43_i2c_slave.md R420 to R427) -/

theorem execMTxByteAck_stepKept (s : State) : StepsWithin (StepKept w) s (execMTxByteAck s) :=
  KeepsControl.eventStep
    (fun _ => runsWithin_bind fun _ hp => runsWithin_ok ((popMTx_controlKept hp).trans (.of_eq (by rfl)))) s

theorem execMTxByteNack_stepKept (s : State) : StepsWithin (StepKept w) s (execMTxByteNack s) :=
  KeepsControl.eventStep
    (fun _ => runsWithin_bind fun _ hp => runsWithin_ok ((popMTx_controlKept hp).trans (.of_eq (by rfl)))) s

theorem execMRxByte_stepKept (b : Byte) (s : State) : StepsWithin (StepKept w) s (execMRxByte b s) :=
  KeepsControl.eventStep
    (fun s => (keepsControl_ok fun _ => .of_eq (by rfl)).bind (pushMRx_keepsControl b s)) s

theorem execSRxByte_stepKept (b : Byte) (s : State) : StepsWithin (StepKept w) s (execSRxByte b s) :=
  KeepsControl.eventStep
    (fun s => runsWithin_map fun t ht => (pushSRx_keepsControl b s t ht).trans (.of_eq (by rfl))) s

theorem execSTxByte_stepKept (s : State) : StepsWithin (StepKept w) s (execSTxByte s) :=
  KeepsControl.eventStep
    (fun _ => runsWithin_bind fun _ hp => runsWithin_ok ((popSTx_controlKept hp).trans (.of_eq (by rfl)))) s

theorem execSTxUnderflow_stepKept (s : State) : StepsWithin (StepKept w) s (execSTxUnderflow s) :=
  KeepsControl.eventStep
    (fun s => runsWithin_ok ((drawBits_state 8 s).controlKept.trans (.of_eq (by rfl)))) s

/-- An event with one update for its effect, which is of the bus engines and the trace alone. -/
theorem stepKept_eventStep_update {enabled : State → Bool} {update : State → State}
    (h : ∀ s, (contextOf (update s), (update s).nvic) = (contextOf s, s.nvic)) (s : State) :
    StepsWithin (StepKept w) s (eventStep enabled (fun t => .ok (update t)) s) :=
  (keepsControl_ok fun s => .of_eq (h s)).eventStep s

/-! ### The handlers (42_i2c_master.md R370 to R373, 43_i2c_slave.md R430 to R436) -/

theorem repeatChecked_controlKept (s : State) : ControlKept w s (repeatChecked s) := by
  obtain ⟨m, trace, hchecked, _, _⟩ := repeatChecked_form s
  rw [hchecked]
  exact .of_eq rfl

theorem fifoPump_keepsControl : KeepsControl w fifoPump := fun s =>
  runsWithin_ite (fun _ => runsWithin_ite (fun _ => pumpRx_keepsControl s) fun _ => pumpTx_keepsControl s) fun _ =>
    runsWithin_ok (.of_eq (by rfl))

theorem tcompServed_controlKept (s : State) : ControlKept w s (tcompServed s) := by
  unfold tcompServed
  split
  · exact (ControlKept.of_eq (by rfl)).signalCompletion _
  · exact .refl s

theorem masterService_keepsControl : KeepsControl w masterService := by
  intro s
  have hfifo : RunsWithin (ControlKept w) s (if fifoReqM s then fifoPump (repeatChecked s) else .ok s) :=
    runsWithin_ite (fun _ => fifoPump_keepsControl.after (repeatChecked_controlKept s)) fun _ =>
      runsWithin_ok (.refl s)
  rw [masterService_eq]
  refine runsWithin_ite (fun _ => runsWithin_ok ?_) fun _ =>
    runsWithin_map fun t ht => (hfifo t ht).trans (tcompServed_controlKept t)
  rw [masterError_eq]
  exact (ControlKept.of_eq (by rfl)).signalCompletion _

theorem progressNoted_controlKept (s : State) : ControlKept w s (progressNoted s) := by
  unfold progressNoted
  dsimp only
  split
  · exact .of_eq rfl
  · exact .refl s

theorem slavePassed_controlKept (s : State) : ControlKept w s (slavePassed s) := by
  have hserved : ControlKept w s (fifosServed s) := .of_eq rfl
  have hnoted := hserved.trans (progressNoted_controlKept (fifosServed s))
  unfold slavePassed
  split
  · split
    · exact (hnoted.trans (.of_eq (by rfl))).signalCompletion _
    · exact hserved
  · exact (hnoted.trans (.of_eq (by rfl))).signalCompletion _

theorem slaveService_keepsControl : KeepsControl w slaveService := by
  intro s
  rw [slaveService_eq_slavePassed]
  exact runsWithin_ite (fun _ => runsWithin_ok (slavePassed_controlKept s)) fun _ => runsWithin_error _

/-! ### Every instruction of the group -/

theorem exec_i2c_stepKept {i : Instr} (hi : rtcGroup i = false) (s : State) :
    StepsWithin (StepKept (writesLines i)) s (exec i s) := by
  cases i with
  | i2cMasterInit id =>
    exact stepKept_mainStep (w := true) (i2cInit_keepsControl _ id _ fun _ => .of_context (by rfl))
      keepsControl_noResume s
  | i2cSlaveInit id =>
    exact stepKept_mainStep (w := true) (i2cInit_keepsControl _ id _ fun _ => .of_context (by rfl))
      keepsControl_noResume s
  | i2cUnInit h => exact unInitBody_keepsControl.i2cGated_mainStep s
  | i2cSetDmaMode h b => exact ((setDmaBody_keepsControl b).ifComplete _).i2cGated_mainStep s
  | i2cSetBlockingMode h b => exact ((setBlockingBody_keepsControl b).ifComplete _).i2cGated_mainStep s
  | i2cSetSlaveAddress h v => exact ((setSlaveAddressBody_keepsControl v).ifComplete _).i2cGated_mainStep s
  | i2cSetTenBitAddressing h b =>
    exact (KeepsControl.ifComplete (fun _ => (ControlKept.of_eq (by rfl)).retI2c _ _) _).i2cGated_mainStep s
  | i2cSetClockStretch h b =>
    exact KeepsControl.i2cGated_mainStep (fun _ => (ControlKept.of_eq (by rfl)).retI2c _ _) s
  | i2cMasterTransmit h sid daddr daw buf size rs => exact execI2cMasterTransmit_stepKept h sid daddr daw buf size rs s
  | i2cMasterReceive h sid daddr daw buf size rs => exact execI2cMasterReceive_stepKept h sid daddr daw buf size rs s
  | i2cSlaveTransmit h buf size => exact slaveCall_stepKept _ h size (slaveTransmitIdle_keepsControl buf size) s
  | i2cSlaveReceive h buf size => exact slaveCall_stepKept _ h size (slaveReceiveIdle_keepsControl buf size) s
  | i2cGetGeneralCall h => exact KeepsControl.i2cGated_mainStep (fun _ => runsWithin_ok (.of_eq (by rfl))) s
  | i2cGetStatus h => exact KeepsControl.i2cGated_mainStep (fun _ => runsWithin_ok (.of_eq (by rfl))) s
  | i2cRegisterCallback h cb =>
    exact KeepsControl.i2cGated_mainStep (fun _ => (ControlKept.of_eq (by rfl)).retI2c _ _) s
  | mAddrAck => rw [exec_mAddrAck]; exact stepKept_eventStep_update (fun _ => by rfl) s
  | mAddrNack => rw [exec_mAddrNack]; exact stepKept_eventStep_update (fun _ => by rfl) s
  | mTxByteAck => exact execMTxByteAck_stepKept s
  | mTxByteNack => exact execMTxByteNack_stepKept s
  | mTxEnd => rw [exec_mTxEnd]; exact stepKept_eventStep_update (fun _ => by rfl) s
  | mRxByte b => exact execMRxByte_stepKept b s
  | mRxEnd => rw [exec_mRxEnd]; exact stepKept_eventStep_update (fun _ => by rfl) s
  | mAlost => rw [exec_mAlost]; exact stepKept_eventStep_update (fun _ => by rfl) s
  | sAddrMatch d => rw [exec_sAddrMatch]; exact stepKept_eventStep_update (fun _ => by rfl) s
  | sRxByte b => exact execSRxByte_stepKept b s
  | sTxByte => exact execSTxByte_stepKept s
  | sTxUnderflow => exact execSTxUnderflow_stepKept s
  | sRepstart d => rw [exec_sRepstart]; exact stepKept_eventStep_update (fun _ => by rfl) s
  | sStop => rw [exec_sStop]; exact stepKept_eventStep_update (fun _ => by rfl) s
  | sGcall b => rw [exec_sGcall]; exact stepKept_eventStep_update (fun _ => by rfl) s
  | i2cmIsr => exact masterService_keepsControl.handlerStep s
  | i2csIsr => exact slaveService_keepsControl.handlerStep s
  | dmaIsr c => exact execDmaIsr_stepKept c s
  | dmaXfer c => exact execDmaXfer_stepKept c s
  | _ => simp [rtcGroup, opcodeOf] at hi

end

/-! ### Every instruction and every step -/

theorem exec_stepKept (i : Instr) (s : State) : StepsWithin (StepKept (writesLines i)) s (exec i s) := by
  cases hi : rtcGroup i with
  | true => exact exec_rtc_stepKept hi s
  | false => exact exec_i2c_stepKept hi s

/-- Settles O17: an instruction that is no writer of R531 keeps the line enables in its step. -/
theorem lineEnableWriters : Obligations.LineEnableWriters := fun i s t hkeeps h => (exec_stepKept i s t h).lines hkeeps

/-- Settles O13: a step takes a line from the schedule, or none, and is then nothing more, a refusal, an instruction or
a reset; an instruction keeps the context between steps, and a reset leaves no handler and no critical region. -/
theorem stepKeepsBetweenSteps : Obligations.StepKeepsBetweenSteps := by
  intro s u hs h
  obtain ⟨_, t, ht, hu⟩ := step_next h
  have hbetween : BetweenSteps t := by
    rcases ht with rfl | ⟨l, rfl⟩
    · exact hs
    · exact hs
  rcases hu with rfl | ⟨r, rfl⟩ | ⟨i, hi⟩ | rfl | rfl
  · exact hbetween
  · exact hbetween
  · exact (exec_stepKept i t u hi).between hbetween
  · exact ⟨rfl, rfl⟩
  · exact ⟨rfl, rfl⟩

end Sys2Proof.Machine

/-! The reset state, and the two reset kinds as schedule lines (70_reset_and_hazards.md R580, R581). -/

namespace Sys2Proof.Machine

open Sys2Proof.Cert

/-! ### The reset state -/

/-- Settles O15: memory, the FIFOs and the results are empty, no bit outside the masks is set and no handler holds. -/
theorem resetIsSafe : Obligations.ResetIsSafe := by
  have hmemory : MemoryCanonical State.reset := by decide
  have hreserved : ReservedBitsZero State.reset := ⟨by decide, by decide, by decide⟩
  have hfifos : FifosWithinDepth State.reset := ⟨Nat.zero_le _, Nat.zero_le _, Nat.zero_le _, Nat.zero_le _⟩
  have hengine : EngineMatchesMode State.reset := engineMatchesMode_of_reset rfl
  have hbetween : BetweenSteps State.reset := ⟨rfl, rfl⟩
  exact ⟨hmemory, hreserved, hfifos, hengine, hbetween, rfl⟩

@[simp] theorem DmaHw.get_reset (c : Chan) : DmaHw.reset.get c = Channel.reset := by
  cases c <;> rfl

@[simp] theorem Nvic.get_reset (l : Line) : Nvic.reset.get l = false := by
  cases l <;> rfl

/-- Settles O20: each group's reset value has the literals of R581, and every channel and every line has the same. -/
theorem resetValues : Obligations.ResetValues := by
  have hfailsafe : State.reset.rtc.status.getLsbD 2 = true := by decide
  have hchannels : ∀ c : Chan, State.reset.dma.get c = Channel.reset := DmaHw.get_reset
  have hlines : ∀ l : Line, State.reset.nvic.get l = false := Nvic.get_reset
  exact ⟨rfl, hfailsafe, rfl, rfl, rfl, rfl, rfl, rfl, rfl, hchannels, hlines, rfl, rfl, rfl, rfl, rfl, rfl, rfl, rfl⟩

/-! ### The resets as schedule lines -/

/-- After a POR no status bit but FAILSAFE and the two drawn flags is set (R581). -/
theorem failsafeStatus_zero (flags : BitVec 2) :
    failsafeStatus 0x0000#16 flags = 0x0004#16 ||| flags.setWidth 16 := by
  simp [failsafeStatus]

/-- Of the whole state, draws can change only the tape and the counter of free draws (log 3). -/
theorem DrawnFrom.eq_withDraws {s t : State} (h : DrawnFrom s t) :
    t = { s with env := { s.env with tape := t.env.tape, drawn := t.env.drawn } } := by
  obtain ⟨⟨_, _, _, _⟩, rfl, rfl, rfl⟩ := h
  rfl

/-- A POR is a CORE reset on the state that the draws leave, with the RTC domain as R581 says. -/
theorem porReset_eq_poweredOn (s : State) :
    porReset s =
      { coreReset (drawRtc s).2 with
        rtc :=
          let d := (drawRtc s).1
          poweredOn s.cfg.trimLayout d.flags d.count d.alarm d.control d.trim d.errSrc } := by
  rw [porReset, failsafeStatus_zero]
  rfl

/-- Settles O21: the next line runs; the draws are the witnesses, and a tape that fixes six outcomes says which they
are. -/
theorem resetTurns : Obligations.ResetTurns := by
  intro s rest hunmarked hmain kept
  refine ⟨fun hsched => ?_, fun hsched => ?_⟩
  · rw [step_eq_runTurn hunmarked hmain hsched]
    rfl
  · have hstep : step s = .next (porReset (s.withSched rest)) := step_eq_runTurn hunmarked hmain hsched
    rw [hstep, porReset_eq_poweredOn]
    refine ⟨?_, fun f c a k t e tape htape => ?_⟩
    · rw [(drawRtc_state (s.withSched rest)).eq_withDraws]
      exact ⟨_, _, _, _, _, _, _, _, rfl⟩
    · rw [drawRtc_of_tape (s := s.withSched rest) htape]
      rfl

end Sys2Proof.Machine
